-- ==== Sys2Proof/Word.lean ====
section
/-! DEFINITION. The words of the block: register bytes, 16-bit port numbers and samples, and one stereo frame of
the audio backend's integer accumulator (spec/00_scope.md R10). -/

namespace Sys2Proof

/-- A register byte or a byte on the I/O port space, 8 bits (R10, R50). -/
abbrev Byte := BitVec 8

/-- A 16-bit port number or canonical offset (R50, R72). -/
abbrev Port := BitVec 16

/-- A 16-bit PCM sample as the latches and the sample buffer hold it (R43, R45). -/
abbrev Sample := BitVec 16

/-- One stereo frame of integers: the accumulator of a buffer pull has unbounded integers (R233, R236). -/
structure Frame where
  /-- left channel -/
  l : Int
  /-- right channel -/
  r : Int
  deriving DecidableEq, Repr, Inhabited

/-- `s16(v)`: a 16-bit value read as a two's-complement signed integer (R10). -/
abbrev s16 (v : Sample) : Int := v.toInt

end Sys2Proof
end

