-- ==== Sys2Proof/Config.lean ====
section
/-! DEFINITION. The implementation parameters of spec/00_scope.md R9 (table 4.1), the window starts of
spec/41_relocation.md R150, the attenuation of R234, and the free values: constants with no body, of which no proof
can know the value. Log entries 4, 7 and 16. -/

namespace Sys2Proof.Config

/-- FREE VALUE (log entry 7): `BUFLEN` is OPEN in the spec (R9, R45, D43), "a positive integer". This constant has
no body; `BUFLEN` after reset is one more than it, hence positive. -/
opaque bufLenLessOne : Nat

/-- FREE VALUE (log entry 4): the byte the DMA collaborator answers with at the given draw (R55, D33). -/
opaque dmaByte : Nat → Byte

/-- FREE VALUE (log entry 4): the byte the synthesizer answers a register read with at the given draw (R101, D40). -/
opaque synthByte : Nat → Byte

/-- FREE VALUE (log entry 4): the byte the timer answers a window read with at the given draw (R113, D40). -/
opaque timerByte : Nat → Byte

/-- FREE VALUE (log entry 4): a frame of the DSP's contribution `DspMix(n)` at the given draw (R233, D40). -/
opaque dspFrame : Nat → Frame

/-- FREE VALUE (log entry 4): a frame of the synthesizer's contribution `SynthPull(n)` at the given draw (R235, D40). -/
opaque synthFrame : Nat → Frame

/-- FREE VALUE (log entry 5): `T1.EN` after a timer-window access, at the given draw (R56; 93 section 1). -/
opaque timerEnable : Nat → Bool

/-- FREE VALUE (log entry 5): `T1.COUNT + 1` after a timer-window access, at the given draw: the count is in the
range -1..65536 of R44 (93 section 1). -/
opaque timerCount : Nat → Fin 65538

/-- FREE VALUE (log entry 5): `T1.PERIOD` after a timer-window access, at the given draw (R56; 93 section 1). -/
opaque timerPeriod : Nat → BitVec 16

/-- FREE VALUE (log entry 5): `T1.REPEAT` after a timer-window access, at the given draw (R56; 93 section 1). -/
opaque timerRepeat : Nat → Bool

/-- The canonical offsets of table 30.2, one field a row. Those that D4 decides are PRESUMED by the spec, log entry 16. -/
structure Offsets where
  /-- the synthesizer window, its first offset -/
  synth : Port
  /-- `MIXER` -/
  mixer : Port
  /-- `IRQ_STAT` -/
  irqStat : Port
  /-- `FILTER` -/
  filter : Port
  /-- `IRQ_MASK` -/
  irqMask : Port
  /-- `PCM_DATA` bits 7:0 -/
  pcmDataLo : Port
  /-- `PCM_DATA` bits 15:8 -/
  pcmDataHi : Port
  /-- `PCM_CTRL` -/
  pcmCtrl : Port
  /-- the timer window, its first offset -/
  timer : Port
  /-- `MIDI_CTRL` -/
  midiCtrl : Port
  /-- MIDI data -/
  midiData : Port
  /-- MIDI data (alias) -/
  midiDataAlias : Port
  /-- `MIDI_STAT` -/
  midiStat : Port
  /-- `BOARD_REV` -/
  boardRev : Port
  /-- `SCSI` -/
  scsi : Port
  /-- `SYS_CONF_1` -/
  sysConf1 : Port
  /-- `SYS_CONF_2` -/
  sysConf2 : Port
  /-- `SYS_CONF_3` -/
  sysConf3 : Port
  /-- `SYS_CONF_4` -/
  sysConf4 : Port
  /-- `WAIT` -/
  wait : Port
  /-- `IO_CONF_1` -/
  ioConf1 : Port
  /-- `IO_CONF_2` -/
  ioConf2 : Port
  /-- `IO_CONF_3` -/
  ioConf3 : Port
  /-- `IO_CONF_4` -/
  ioConf4 : Port
  /-- `COMPAT` -/
  compat : Port
  /-- `COMPAT_BASE` -/
  compatBase : Port
  /-- `SB_IRQDMA` -/
  sbIrqDma : Port
  /-- `BOARD_ID` -/
  boardId : Port
  deriving Repr

/-- `FIFO_DEPTH`: MIDI receive FIFO slots. The types of the FIFO and of its cursors are over it. -/
abbrev fifoDepth : Nat := 16

/-- The configuration record of R9, with the names of table 4.1. -/
structure Params where
  /-- `CANON_REF`: canonical offset of the base address. -/
  canonRef : Port
  /-- `FIFO_DEPTH`: MIDI receive FIFO slots. -/
  fifoDepth : Nat
  /-- `DMA_TABLE`: I/O-config-2 to DMA channel. PRESUMED by the spec (D12), log entry 16. -/
  dmaTable : List (Fin 8)
  /-- `IRQ_TABLE`: I/O-config-3 to IRQ line. PRESUMED by the spec (D12), log entry 16. -/
  irqTable : List (Fin 16)
  /-- `FLOAT`: value of an unmapped read. -/
  float : Byte
  /-- `MIDI_RESET_MASK`: MIDI control soft-reset bits. -/
  midiResetMask : Byte
  /-- `SC1_RESET`: system-config-1 reset bit. -/
  sc1Reset : Byte
  /-- `BASE_SHIFT`: base-select shift. -/
  baseShift : Nat
  /-- `BASE_SELECT_PORT`: absolute port of the base-select register. PRESUMED by the spec (D5), log entry 16. -/
  baseSelectPort : Port
  /-- `BASE_RESET`: base at construction (D6). -/
  baseReset : Port
  /-- `INT_SAMP`: sample-rate tick bit. PRESUMED by the spec (D8), log entry 16. -/
  intSamp : Byte
  /-- `INT_PCM`: PCM block complete bit. PRESUMED by the spec (D8), log entry 16. -/
  intPcm : Byte
  /-- `INT_MIDI`: MIDI activity bit. PRESUMED by the spec (D8), log entry 16. -/
  intMidi : Byte
  /-- `PCM_ENA`: PCM-enable bit of PCM control. PRESUMED by the spec (D9), log entry 16. -/
  pcmEna : Byte
  /-- `PCM_MONO`: mono bit of PCM control, 1 = mono. PRESUMED by the spec (D9), log entry 16. -/
  pcmMono : Byte
  /-- `SC2_16BIT`: 16-bit sample mode bit of system-config-2. PRESUMED by the spec (D10), log entry 16. -/
  sc2Wide : Byte
  /-- `SC2_MSBINV`: MSB-invert bit of system-config-2. PRESUMED by the spec (D10), log entry 16. -/
  sc2MsbInv : Byte
  /-- `FILT_MUTE`: mute bit of the filter register, 1 = silence. Position PRESUMED by the spec (D11), log entry 16. -/
  filtMute : Byte
  /-- `COMPAT_MPU_EN`: enables the MIDI UART's classic address. PRESUMED by the spec (D14), log entry 16. -/
  compatMpuEn : Byte
  /-- `COMPAT_SB_EN`: enables the DSP's classic address. PRESUMED by the spec (D14), log entry 16. -/
  compatSbEn : Byte
  /-- `BOARD_REV`: board revision constant. PRESUMED by the spec (D16), log entry 16. -/
  boardRev : Byte
  /-- `BOARD_ID`: board model ID constant. PRESUMED by the spec (D16), log entry 16. -/
  boardId : Byte
  /-- `BUFLEN`: frames in the output sample buffer. OPEN in the spec (D43), log entry 7. -/
  bufLen : Nat
  /-- `MIDI_PASSTHROUGH`: a construction argument; here the argument of the construction `State.reset` stands for (log
  entry 8). -/
  midiPassthrough : Bool
  /-- The register locations of table 30.2 (R73). -/
  offsets : Offsets
  /-- The starts of the 4-port windows (R150, D7). -/
  windows : List Port
  deriving Repr

/-- The values of table 4.1, the offsets of table 30.2 and the 14 window starts of R150. -/
def params : Params where
  canonRef := 0x388#16
  fifoDepth := fifoDepth
  dmaTable := [4, 1, 2, 3, 0, 5, 6, 7]
  irqTable := [0, 2, 3, 4, 5, 6, 7, 10, 11, 12, 14, 15, 0, 0, 0, 0]
  float := 0xFF#8
  midiResetMask := 0x60#8
  sc1Reset := 0x80#8
  baseShift := 2
  baseSelectPort := 0x9A01#16
  baseReset := 0x388#16
  intSamp := 0x04#8
  intPcm := 0x08#8
  intMidi := 0x10#8
  pcmEna := 0x40#8
  pcmMono := 0x20#8
  sc2Wide := 0x04#8
  sc2MsbInv := 0x10#8
  filtMute := 0x20#8
  compatMpuEn := 0x01#8
  compatSbEn := 0x02#8
  boardRev := 0x00#8
  boardId := 0x04#8
  bufLen := bufLenLessOne + 1
  midiPassthrough := false
  offsets :=
    { synth := 0x388#16, mixer := 0xb88#16, irqStat := 0xb89#16, filter := 0xb8a#16,
      irqMask := 0xb8b#16, pcmDataLo := 0xf88#16, pcmDataHi := 0xf89#16, pcmCtrl := 0xf8a#16,
      timer := 0x1388#16, midiCtrl := 0x1789#16, midiData := 0x178a#16, midiDataAlias := 0x178b#16,
      midiStat := 0x1b88#16, boardRev := 0x2789#16, scsi := 0x7f89#16, sysConf1 := 0x8388#16,
      sysConf2 := 0x8389#16, sysConf3 := 0x838a#16, sysConf4 := 0x838b#16, wait := 0xbf88#16,
      ioConf1 := 0xf388#16, ioConf2 := 0xf389#16, ioConf3 := 0xf38a#16, ioConf4 := 0xf38b#16,
      compat := 0xf788#16, compatBase := 0xf789#16, sbIrqDma := 0xfb8a#16, boardId := 0xff88#16 }
  windows := [0x388#16, 0xb88#16, 0xf88#16, 0x1388#16, 0x1788#16, 0x1b88#16, 0x2788#16, 0x7f88#16, 0x8388#16,
    0xbf88#16, 0xf388#16, 0xf788#16, 0xfb88#16, 0xff88#16]

/-- `DMA_TABLE[i]`. Every index the block uses is masked to the table's size (R251). -/
def dmaEntry (i : Nat) : Fin 8 := params.dmaTable.getD i 0

/-- `IRQ_TABLE[i]`. Every index the block uses is masked to the table's size (R251). -/
def irqEntry (i : Nat) : Fin 16 := params.irqTable.getD i 0

/-- `Atten(x)`: half, rounded toward zero, on the signed frame value (R234). The spec asks to keep it a configuration
function. PRESUMED by the spec (D36), log entry 16. -/
def atten (x : Int) : Int := Int.tdiv x 2

end Sys2Proof.Config
end

