-- ==== Sys2Proof/Syntax.lean ====
section
/-! DEFINITION. The instructions of the block: one constructor of `Instr` for each row of spec/opcode_table.json, and
the host events they are decoded from, as the tuples of spec/30_encoding.md table 30.1 (R70, R79). -/

namespace Sys2Proof

/-- A host event in the encoding of R79: the tuple of its format's fields in table 30.1 order. The pulls and `CLOSE` carry
`t` by R14, though the table lists none for them (log entry 11): where none is written it is 0, as in a script (R78). -/
inductive HostEvent where
  /-- `IO_READ`: `port`, time cursor `t`. -/
  | ioRead (port : Port) (t : Nat)
  /-- `IO_WRITE`: `port`, `data`, `t`. -/
  | ioWrite (port : Port) (data : Byte) (t : Nat)
  /-- `TICK`: `t`. -/
  | tick (t : Nat)
  /-- `MIDI_IN`: `byte`, `t`. -/
  | midiIn (byte : Byte) (t : Nat)
  /-- `PULL_PCM`: `n` frames, the caller's accumulator `acc` of `n` frames, `t` (R14). -/
  | pullPcm (n : Nat) (acc : List Frame) (t : Nat := 0)
  /-- `PULL_SYNTH`: `n`, `acc`, `t` (R14). -/
  | pullSynth (n : Nat) (acc : List Frame) (t : Nat := 0)
  /-- `HOST_RESET`: `t`. -/
  | hostReset (t : Nat)
  /-- `CONSTRUCT`: `passthrough`, 1 bit. -/
  | construct (passthrough : Bool)
  /-- `CLOSE`: `t` (R14). -/
  | close (t : Nat := 0)
  deriving DecidableEq, Repr

/-- The nine formats of table 30.1, in its order. -/
inductive Format where
  | ioRead | ioWrite | tick | midiIn | pullPcm | pullSynth | hostReset | construct | close
  deriving DecidableEq, Repr

/-- Why the decoder reads no instruction from what it is given. -/
inductive DecodeError where
  /-- A pull whose accumulator does not hold `n` frames, as table 30.1 asks. Raised by `decode`; safe (log entry 15). -/
  | accumulatorLength (n got : Nat)
  /-- A numbered event with a format code that table 30.1 does not have. Raised by `HostEvent.ofNumber`, the model's
  own numbering of events; safe (log entry 1). -/
  | unknownFormat (code : Nat)
  deriving DecidableEq, Repr

/-- The instructions of the block, in the order of spec/opcode_table.json. `t` is the host's time cursor (R14), `v` the
byte written, `off` the canonical offset (R72). -/
inductive Instr where
  /-- IN_SYNTH: read in the window at canonical 0x0388; `off` is the canonical offset (R101). -/
  | inSynth (off : Port) (t : Nat)
  /-- OUT_SYNTH: write in the window at canonical 0x0388; `off` is the canonical offset (R102). -/
  | outSynth (off : Port) (v : Byte) (t : Nat)
  /-- IN_MIXER: read of canonical 0x0b88 (R103). -/
  | inMixer (t : Nat)
  /-- OUT_MIXER: write of canonical 0x0b88 (R104). -/
  | outMixer (v : Byte) (t : Nat)
  /-- IN_IRQ_STAT: read of canonical 0x0b89 (R164). -/
  | inIrqStat (t : Nat)
  /-- OUT_IRQ_STAT: write of canonical 0x0b89 (R165). -/
  | outIrqStat (v : Byte) (t : Nat)
  /-- IN_FILTER: read of canonical 0x0b8a (R106). -/
  | inFilter (t : Nat)
  /-- OUT_FILTER: write of canonical 0x0b8a (R105). -/
  | outFilter (v : Byte) (t : Nat)
  /-- IN_IRQ_MASK: read of canonical 0x0b8b (R166). -/
  | inIrqMask (t : Nat)
  /-- OUT_IRQ_MASK: write of canonical 0x0b8b (R167). -/
  | outIrqMask (v : Byte) (t : Nat)
  /-- IN_PCM_DATA_LO: read of canonical 0x0f88 (R111). -/
  | inPcmDataLo (t : Nat)
  /-- OUT_PCM_DATA_LO: write of canonical 0x0f88 (R107). -/
  | outPcmDataLo (v : Byte) (t : Nat)
  /-- IN_PCM_DATA_HI: read of canonical 0x0f89 (R112). -/
  | inPcmDataHi (t : Nat)
  /-- OUT_PCM_DATA_HI: write of canonical 0x0f89 (R108). -/
  | outPcmDataHi (v : Byte) (t : Nat)
  /-- IN_PCM_CTRL: read of canonical 0x0f8a (R110). -/
  | inPcmCtrl (t : Nat)
  /-- OUT_PCM_CTRL: write of canonical 0x0f8a (R109). -/
  | outPcmCtrl (v : Byte) (t : Nat)
  /-- IN_TIMER: read in the window at canonical 0x1388; `off` is the canonical offset (R113). -/
  | inTimer (off : Port) (t : Nat)
  /-- OUT_TIMER: write in the window at canonical 0x1388; `off` is the canonical offset (R114). -/
  | outTimer (off : Port) (v : Byte) (t : Nat)
  /-- IN_MIDI_CTRL: read of canonical 0x1789 (R176). -/
  | inMidiCtrl (t : Nat)
  /-- OUT_MIDI_CTRL: write of canonical 0x1789 (R177). -/
  | outMidiCtrl (v : Byte) (t : Nat)
  /-- IN_MIDI_DATA: read of canonical 0x178a (R183). -/
  | inMidiData (t : Nat)
  /-- OUT_MIDI_DATA: write of canonical 0x178a (R180). -/
  | outMidiData (v : Byte) (t : Nat)
  /-- IN_MIDI_DATA_ALIAS: read of canonical 0x178b (R184). -/
  | inMidiDataAlias (t : Nat)
  /-- OUT_MIDI_DATA_ALIAS: write of canonical 0x178b (R185). -/
  | outMidiDataAlias (v : Byte) (t : Nat)
  /-- IN_MIDI_STAT: read of canonical 0x1b88 (R181). -/
  | inMidiStat (t : Nat)
  /-- OUT_MIDI_STAT: write of canonical 0x1b88 (R182). -/
  | outMidiStat (v : Byte) (t : Nat)
  /-- IN_BOARD_REV: read of canonical 0x2789 (R142). -/
  | inBoardRev (t : Nat)
  /-- OUT_BOARD_REV: write of canonical 0x2789 (R143). -/
  | outBoardRev (v : Byte) (t : Nat)
  /-- IN_SCSI: read of canonical 0x7f89 (R140). -/
  | inScsi (t : Nat)
  /-- OUT_SCSI: write of canonical 0x7f89 (R141). -/
  | outScsi (v : Byte) (t : Nat)
  /-- IN_SYS_CONF_1: read of canonical 0x8388 (R115). -/
  | inSysConf1 (t : Nat)
  /-- OUT_SYS_CONF_1: write of canonical 0x8388 (R116). -/
  | outSysConf1 (v : Byte) (t : Nat)
  /-- IN_SYS_CONF_2: read of canonical 0x8389 (R117). -/
  | inSysConf2 (t : Nat)
  /-- OUT_SYS_CONF_2: write of canonical 0x8389 (R118). -/
  | outSysConf2 (v : Byte) (t : Nat)
  /-- IN_SYS_CONF_3: read of canonical 0x838a (R119). -/
  | inSysConf3 (t : Nat)
  /-- OUT_SYS_CONF_3: write of canonical 0x838a (R120). -/
  | outSysConf3 (v : Byte) (t : Nat)
  /-- IN_SYS_CONF_4: read of canonical 0x838b (R121). -/
  | inSysConf4 (t : Nat)
  /-- OUT_SYS_CONF_4: write of canonical 0x838b (R122). -/
  | outSysConf4 (v : Byte) (t : Nat)
  /-- IN_WAIT: read of canonical 0xbf88 (R138). -/
  | inWait (t : Nat)
  /-- OUT_WAIT: write of canonical 0xbf88 (R139). -/
  | outWait (v : Byte) (t : Nat)
  /-- IN_IO_CONF_1: read of canonical 0xf388 (R123). -/
  | inIoConf1 (t : Nat)
  /-- OUT_IO_CONF_1: write of canonical 0xf388 (R124). -/
  | outIoConf1 (v : Byte) (t : Nat)
  /-- IN_IO_CONF_2: read of canonical 0xf389 (R125). -/
  | inIoConf2 (t : Nat)
  /-- OUT_IO_CONF_2: write of canonical 0xf389 (R127). -/
  | outIoConf2 (v : Byte) (t : Nat)
  /-- IN_IO_CONF_3: read of canonical 0xf38a (R126). -/
  | inIoConf3 (t : Nat)
  /-- OUT_IO_CONF_3: write of canonical 0xf38a (R128). -/
  | outIoConf3 (v : Byte) (t : Nat)
  /-- IN_IO_CONF_4: read of canonical 0xf38b (R129). -/
  | inIoConf4 (t : Nat)
  /-- OUT_IO_CONF_4: write of canonical 0xf38b (R131). -/
  | outIoConf4 (v : Byte) (t : Nat)
  /-- IN_COMPAT: read of canonical 0xf788 (R132). -/
  | inCompat (t : Nat)
  /-- OUT_COMPAT: write of canonical 0xf788 (R133). -/
  | outCompat (v : Byte) (t : Nat)
  /-- IN_COMPAT_BASE: read of canonical 0xf789 (R134). -/
  | inCompatBase (t : Nat)
  /-- OUT_COMPAT_BASE: write of canonical 0xf789 (R135). -/
  | outCompatBase (v : Byte) (t : Nat)
  /-- IN_SB_IRQDMA: read of canonical 0xfb8a (R136). -/
  | inSbIrqDma (t : Nat)
  /-- OUT_SB_IRQDMA: write of canonical 0xfb8a (R137). -/
  | outSbIrqDma (v : Byte) (t : Nat)
  /-- IN_BOARD_ID: read of canonical 0xff88 (R144). -/
  | inBoardId (t : Nat)
  /-- OUT_BOARD_ID: write of canonical 0xff88 (R145). -/
  | outBoardId (v : Byte) (t : Nat)
  /-- OUT_BASE_SELECT: write of the base-select port (R151). -/
  | outBaseSelect (v : Byte) (t : Nat)
  /-- IN_BASE_SELECT: read of the base-select port, which no rule of the block answers (R156). -/
  | inBaseSelect (t : Nat)
  /-- IN_UNMAPPED: read of a bound port whose canonical offset `off` has no row (R146). -/
  | inUnmapped (off : Port) (t : Nat)
  /-- OUT_UNMAPPED: write of a bound port whose canonical offset `off` has no row (R147). -/
  | outUnmapped (off : Port) (v : Byte) (t : Nat)
  /-- UNBOUND: an access of a port in no window; `data` is `none` for a read (R148). -/
  | unbound (port : Port) (data : Option Byte) (t : Nat)
  /-- TICK: an output edge of the timer prescaler (R201). -/
  | tick (t : Nat)
  /-- MIDI_IN: an incoming MIDI byte (R186). -/
  | midiIn (byte : Byte) (t : Nat)
  /-- PULL_PCM: the main buffer pull: `n` frames into the accumulator `acc` (R233). Its `t` is 0 where none is written. -/
  | pullPcm (n : Nat) (acc : List Frame) (t : Nat := 0)
  /-- PULL_SYNTH: the synthesizer pull: `n` frames into the accumulator `acc` (R235). Its `t` is 0 where none is written. -/
  | pullSynth (n : Nat) (acc : List Frame) (t : Nat := 0)
  /-- HOST_RESET: the lifecycle reset (R274). -/
  | hostReset (t : Nat)
  /-- CONSTRUCT: creation of the block (R270). -/
  | construct (passthrough : Bool)
  /-- CLOSE: teardown of the block (R271). Its `t` is 0 where none is written. -/
  | close (t : Nat := 0)
  deriving DecidableEq, Repr

end Sys2Proof
end

