-- ==== Sys2Proof/Machine/State.lean ====
section
/-! DEFINITION. The state of the block, as spec/10_state.md table 10.1 lists it, its value at construction, and the
reasons a step can stop. What the spec does not list (the pending events, the collaborators' answers, the record of
calls and the returned value) is the model's own and stands in `Env`, apart from the block (log entries 2, 3, 4, 10). -/

namespace Sys2Proof.Machine

/-- The interface calls of R77, the complete list. A call that returns a value is listed too, without the value. -/
inductive Call where
  /-- synthesizer register read -/
  | synthRead (off : Port)
  /-- synthesizer register write -/
  | synthWrite (off : Port) (v : Byte)
  /-- synthesizer per-period buffer pull -/
  | synthPull (n : Nat)
  /-- synthesizer buffer reset -/
  | synthBufReset
  /-- DSP address, 0 disables -/
  | dspSetAddr (a : Port)
  /-- DSP IRQ/DMA reassignment -/
  | dspSetIrqDma (b : Byte)
  /-- DSP buffer update and contribution -/
  | dspMix (n : Nat)
  /-- reset of the DSP's buffer cursor -/
  | dspBufReset
  /-- MIDI UART address, 0 disables -/
  | uartSetAddr (a : Port)
  /-- MIDI UART raw byte send -/
  | uartSend (b : Byte)
  /-- assert by line mask -/
  | irqAssert (m : BitVec 16)
  /-- deassert by line mask -/
  | irqDeassert (m : BitVec 16)
  /-- DMA single-byte read by channel -/
  | dmaRead (ch : Fin 8)
  /-- timer window read -/
  | timerRead (i : Port)
  /-- timer window write -/
  | timerWrite (i : Port) (v : Byte)
  deriving DecidableEq, Repr

/-- What a step returns to its caller (R13): nothing, the byte of a read, or the accumulator of a pull. -/
inductive Reply where
  | nothing
  | byte (b : Byte)
  | frames (acc : List Frame)
  deriving DecidableEq, Repr

/-- The four fields of the timer collaborator's second counter that the block reads and writes (R44). -/
structure T1 where
  /-- `T1.EN`: counter enabled -/
  en : Bool
  /-- `T1.COUNT`, an integer; holds at least -1..65536 -/
  count : Int
  /-- `T1.PERIOD`: configured reload value -/
  period : BitVec 16
  /-- `T1.REPEAT`: the counter's own repeat-mode flag -/
  repeats : Bool
  deriving DecidableEq, Repr

/-- How the timer collaborator leaves T1 after a timer-window access: any value in the ranges of R44 (R56, R114; 93
section 1). The count is `countPlusOne - 1`, in -1..65536. -/
structure TimerSetting where
  /-- `T1.EN` -/
  en : Bool
  /-- `T1.COUNT + 1` -/
  countPlusOne : Fin 65538
  /-- `T1.PERIOD` -/
  period : BitVec 16
  /-- `T1.REPEAT` -/
  repeats : Bool
  deriving DecidableEq, Repr

/-- MODEL'S OWN (log entry 4): the answers the collaborators have ready, oldest first, one list a kind of draw. A
draw takes the oldest; where none is ready it is a free value of `Config`. -/
structure Supply where
  /-- bytes the DMA collaborator answers with (R55) -/
  dma : List Byte
  /-- bytes the synthesizer answers a register read with (R101) -/
  synth : List Byte
  /-- bytes the timer answers a window read with (R113) -/
  timer : List Byte
  /-- frames of the DSP's contribution (R233) -/
  dspFrames : List Frame
  /-- frames of the synthesizer's contribution (R235) -/
  synthFrames : List Frame
  /-- settings of T1 after a timer-window access (R56, R114) -/
  settings : List TimerSetting
  deriving DecidableEq, Repr

/-- MODEL'S OWN: what stands outside the block, as the step sees it. -/
structure Env where
  /-- the host events still to arrive, oldest first (R59; log entry 2) -/
  inputs : List HostEvent
  /-- the collaborators' ready answers (log entry 4) -/
  supply : Supply
  /-- how many draws were made: the index of the next free value (log entry 4) -/
  drawn : Nat
  /-- the interface calls of this block since its construction, in the order it made them (R12, R60; log entry 3) -/
  trace : List Call
  /-- what the last step returned (R13; log entry 3) -/
  reply : Reply
  /-- the last time cursor of the current buffer period (R14, R276; log entry 10) -/
  cursor : Nat
  deriving DecidableEq, Repr

/-- The state of the block (R20, table 10.1), the timer fields it shares with the timer collaborator (R44), its
construction parameters, and the model's `env`. -/
structure State where
  /-- `BASE`: the port at which canonical offset 0x388 answers (R21) -/
  base : Port
  /-- `SEL_IRQ`: the IRQ line of the shared interrupt line (R22) -/
  selIrq : Fin 16
  /-- `SEL_DMA`: the DMA channel of the sampler (R23) -/
  selDma : Fin 8
  /-- `MIXER` (R24) -/
  mixer : Byte
  /-- `IRQ_STAT` (R25) -/
  irqStat : Byte
  /-- `FILTER` (R26) -/
  filter : Byte
  /-- `IRQ_MASK` (R27) -/
  irqMask : Byte
  /-- `PCM_DATA` (R28) -/
  pcmData : BitVec 16
  /-- `PCM_CTRL` (R29) -/
  pcmCtrl : Byte
  /-- `SCSI` (R30) -/
  scsi : Byte
  /-- `SYS_CONF_1` (R31) -/
  sysConf1 : Byte
  /-- `SYS_CONF_2` (R32) -/
  sysConf2 : Byte
  /-- `SYS_CONF_3` (R33) -/
  sysConf3 : Byte
  /-- `SYS_CONF_4` (R33) -/
  sysConf4 : Byte
  /-- `WAIT` (R34) -/
  wait : Byte
  /-- `IO_CONF_1` (R35) -/
  ioConf1 : Byte
  /-- `IO_CONF_2` (R36) -/
  ioConf2 : Byte
  /-- `IO_CONF_3` (R37) -/
  ioConf3 : Byte
  /-- `IO_CONF_4` (R35) -/
  ioConf4 : Byte
  /-- `COMPAT` (R38) -/
  compat : Byte
  /-- `COMPAT_BASE` (R38) -/
  compatBase : Byte
  /-- `SB_IRQDMA` (R39) -/
  sbIrqDma : Byte
  /-- `MIDI_CTRL` (R40) -/
  midiCtrl : Byte
  /-- `MIDI_STAT` (R40) -/
  midiStat : Byte
  /-- `TX_READY` (R41) -/
  txReady : Bool
  /-- `RX_READY` (R41) -/
  rxReady : Bool
  /-- `FIFO[0..15]` (R42) -/
  fifo : Vector Byte Config.fifoDepth
  /-- `VALID[0..15]` (R42) -/
  valid : Vector Bool Config.fifoDepth
  /-- `RCUR`, a 4-bit value (R42) -/
  rcur : Fin Config.fifoDepth
  /-- `WCUR`, a 4-bit value (R42) -/
  wcur : Fin Config.fifoDepth
  /-- `LATCH_L` (R43) -/
  latchL : Sample
  /-- `LATCH_R` (R43) -/
  latchR : Sample
  /-- `STEREO_R`: the next stereo sample enters the right latch (R43) -/
  stereoR : Bool
  /-- `T1`, the countdown (R44) -/
  t1 : T1
  /-- `POS`: the index of the first unfilled frame (R45) -/
  pos : Nat
  /-- `BUF_L[0..BUFLEN-1]`, each read as `s16` (R45) -/
  bufL : List Sample
  /-- `BUF_R[0..BUFLEN-1]`, each read as `s16` (R45) -/
  bufR : List Sample
  /-- `LINE`: the level last driven on the shared interrupt line (R46) -/
  line : Bool
  /-- `MIDI_PASSTHROUGH`, fixed at construction (R47) -/
  midiPassthrough : Bool
  /-- `BUFLEN`, fixed for the block's life (R45, D43; log entry 7) -/
  bufLen : Nat
  /-- the block was closed: its windows are unbound and no step follows (R271, R276) -/
  closed : Bool
  /-- MODEL'S OWN: the outside as the step sees it -/
  env : Env
  deriving DecidableEq, Repr

/-- The reasons a step can stop with a fault: none. The block "raises no exception" (R250) and has no fault outcome
(R13), so this closed type has no constructor. -/
inductive Fault : Type
  deriving DecidableEq, Repr

/-- The reasons a step is refused. -/
inductive Refusal where
  /-- An instruction that has no meaning yet. Raised by an arm of `exec` only; safe. No arm raises it now. -/
  | notModelled (mnemonic : String)
  /-- The time cursor is above `BUFLEN`, against a host duty of R276. Raised by every entry point that carries `t`;
  safe: the spec refuses the step. -/
  | cursorOutOfRange
  /-- The time cursor is below the last one of the buffer period, against a host duty of R276. Raised by every entry
  point that carries `t`; safe: the spec refuses the step (log entry 10). -/
  | cursorDecreased
  /-- A pull of more than `BUFLEN` frames, against a host duty of R276. Raised by the pulls; safe: the spec refuses it. -/
  | pullTooLong
  /-- A step after `CLOSE`, against R271 and a host duty of R276. Raised by every entry point; safe: the spec refuses
  the step (log entry 12). -/
  | afterClose
  /-- What arrived is no event of table 30.1. Raised by `step`; safe (log entry 15). -/
  | undecodable (e : DecodeError)
  deriving DecidableEq, Repr

/-- The block at its "Ctor" values of table 10.1 (R20, R270), before construction's calls, with the given construction
arguments. The T1 fields are a DESIGN CHOICE (log entry 6): `T1.EN` = 0 is the common start state of
95_test_vectors.md, and nothing reads the other three before a timer-window access sets all four. -/
def State.atConstruction (passthrough : Bool) (bufLen : Nat) (env : Env) : State where
  base := Config.params.baseReset
  selIrq := Config.irqEntry 0
  selDma := Config.dmaEntry 0
  mixer := 0x00#8
  irqStat := 0x00#8
  filter := 0x00#8
  irqMask := 0x00#8
  pcmData := 0x0000#16
  pcmCtrl := 0x00#8
  scsi := 0x00#8
  sysConf1 := 0x00#8
  sysConf2 := 0x00#8
  sysConf3 := 0x00#8
  sysConf4 := 0x00#8
  wait := 0x00#8
  ioConf1 := 0x00#8
  ioConf2 := 0x00#8
  ioConf3 := 0x00#8
  ioConf4 := 0x00#8
  compat := 0x00#8
  compatBase := 0x00#8
  sbIrqDma := 0x00#8
  midiCtrl := 0x00#8
  midiStat := 0xFF#8
  txReady := false
  rxReady := false
  fifo := Vector.replicate Config.fifoDepth 0x00#8
  valid := Vector.replicate Config.fifoDepth false
  rcur := 0
  wcur := 0
  latchL := 0x0000#16
  latchR := 0x0000#16
  stereoR := false
  t1 := { en := false, count := 0, period := 0#16, repeats := false }
  pos := 0
  bufL := List.replicate bufLen 0#16
  bufR := List.replicate bufLen 0#16
  line := false
  midiPassthrough := passthrough
  bufLen := bufLen
  closed := false
  env := env

/-- The environment right after construction: no event pending, no answer ready, no draw made, and the three calls
construction emits (R270: `CompatPush()` with `COMPAT` = 0, then `DspSetIrqDma(0x00)`). -/
def Env.initial : Env where
  inputs := []
  supply := { dma := [], synth := [], timer := [], dspFrames := [], synthFrames := [], settings := [] }
  drawn := 0
  trace := [.dspSetAddr 0x0000#16, .uartSetAddr 0x0000#16, .dspSetIrqDma 0x00#8]
  reply := .nothing
  cursor := 0

/-- The machine right after reset: the state after `CONSTRUCT(0)` (R270, the common start state of
95_test_vectors.md; log entries 6, 7, 8, 9), with `BUFLEN` the free value of `Config`. -/
def State.reset : State := State.atConstruction Config.params.midiPassthrough Config.params.bufLen Env.initial

end Sys2Proof.Machine
end

