-- ==== Sys2Proof/Machine/Flags.lean ====
section
/-! DEFINITION. The block's flags are the bits of `IRQ_STAT` (spec/10_state.md R48). How a producer sets its bit, how a
guest write clears bits, and what level a producer drives (spec/42_interrupt.md R161-R165). -/

namespace Sys2Proof.Machine

/-- `IRQ_STAT` after a producer whose event is present: its bit set (R163). -/
def raised (bit : Byte) (cond : Bool) (stat : Byte) : Byte := if cond then stat ||| bit else stat

/-- `IRQ_STAT` after a guest write of the clear mask `v` (R165). -/
def cleared (v stat : Byte) : Byte := stat &&& ~~~v

/-- The level a producer drives: its own status bit set and its own mask bit enabled (R163). -/
def lineLevel (bit stat mask : Byte) : Bool := stat &&& bit != 0#8 && mask &&& bit != 0#8

/-- The line mask of an IRQ line: `1 << SEL_IRQ`, 16 bits (R162). -/
def lineMask (sel : Fin 16) : BitVec 16 := 1#16 <<< sel.val

end Sys2Proof.Machine
end

