-- ==== Sys2Proof/Machine/Operands.lean ====
section
/-! DEFINITION. Every operand the block takes from a written byte or an offset (spec/30_encoding.md R74), the
compatibility addresses (spec/40_decode_dispatch.md R130), the byte halves of `PCM_DATA` (R107, R108) and the assembly
of a sample from DMA bytes (spec/44_pcm_sampler.md R204-R206). -/

namespace Sys2Proof.Machine

/-! ## Operands of written bytes (R74) -/

/-- New base of a base-select write: `zext_16(v) << 2` (R74, R151). -/
def newBase (v : Byte) : Port := v.setWidth 16 <<< Config.params.baseShift

/-- DMA table index of an `IO_CONF_2` write: `v & 0x07` (R74, R127). -/
def dmaIndex (v : Byte) : Nat := (v &&& 0x07#8).toNat

/-- IRQ table index of an `IO_CONF_3` write: `v & 0x0F` (R74, R128). -/
def irqIndex (v : Byte) : Nat := (v &&& 0x0F#8).toNat

/-- The DMA channel an `IO_CONF_2` byte selects (R127). The masked index is always inside the table (R251). -/
def dmaChannel (v : Byte) : Fin 8 := Config.dmaEntry (dmaIndex v)

/-- The IRQ line an `IO_CONF_3` byte selects (R128). The masked index is always inside the table (R251). -/
def irqLine (v : Byte) : Fin 16 := Config.irqEntry (irqIndex v)

/-- Soft-reset test of a `MIDI_CTRL` write: both bits of 0x60 are set (R74, R177). -/
def softReset (v : Byte) : Bool := v &&& Config.params.midiResetMask == Config.params.midiResetMask

/-- System reset edge of a `SYS_CONF_1` write over the stored byte `old` (R74, R116). -/
def systemResetEdge (v old : Byte) : Bool :=
  v &&& Config.params.sc1Reset != 0#8 && old &&& Config.params.sc1Reset == 0#8

/-- PCM enable edge of a `PCM_CTRL` write over the stored byte `old` (R74, R109). -/
def pcmEnableEdge (v old : Byte) : Bool :=
  v &&& Config.params.pcmEna != 0#8 && old &&& Config.params.pcmEna == 0#8

/-- DSP classic address of `COMPAT` and `COMPAT_BASE`; 0 disables (R74, R130). -/
def dspAddress (compat compatBase : Byte) : Port :=
  if compat &&& Config.params.compatSbEn != 0#8 then 0x200#16 ||| (compatBase &&& 0x0F#8).setWidth 16 <<< 4 else 0#16

/-- MIDI UART classic address of `COMPAT` and `COMPAT_BASE`; 0 disables (R74, R130). -/
def uartAddress (compat compatBase : Byte) : Port :=
  if compat &&& Config.params.compatMpuEn != 0#8 then 0x300#16 ||| (compatBase &&& 0xF0#8).setWidth 16 else 0#16

/-- Timer register of a timer-window offset: `off - 0x1388`, 0..3 (R74, R113, R114). -/
def timerIndex (off : Port) : Port := off - Config.params.offsets.timer

/-! ## Byte halves of `PCM_DATA` -/

/-- `PCM_DATA` with its low byte replaced (R107). -/
def withLowByte (w : BitVec 16) (v : Byte) : BitVec 16 := w &&& 0xFF00#16 ||| v.setWidth 16

/-- `PCM_DATA` with its high byte replaced (R108). -/
def withHighByte (w : BitVec 16) (v : Byte) : BitVec 16 := w &&& 0x00FF#16 ||| v.setWidth 16 <<< 8

/-! ## Samples -/

/-- The sample of one byte in 8-bit mode: the sign bit flipped, the byte high (R204). -/
def sample8 (b : Byte) : Sample := (b ^^^ 0x80#8).setWidth 16 <<< 8

/-- The sample of two bytes in 16-bit mode: the first read is the high one (R205, R52). -/
def sample16 (hi lo : Byte) : Sample := hi.setWidth 16 <<< 8 ||| lo.setWidth 16

/-- Whether `SYS_CONF_2` selects 16-bit samples (R32, R203). -/
def wideSamples (sysConf2 : Byte) : Bool := sysConf2 &&& Config.params.sc2Wide != 0#8

/-- MSB invert of an assembled sample, where `SYS_CONF_2` asks for it (R206). -/
def msbInvert (sysConf2 : Byte) (s : Sample) : Sample :=
  if sysConf2 &&& Config.params.sc2MsbInv != 0#8 then s ^^^ 0x8000#16 else s

/-- Whether `PCM_CTRL` enables the sampler (R29). -/
def pcmEnabled (pcmCtrl : Byte) : Bool := pcmCtrl &&& Config.params.pcmEna != 0#8

/-- Whether `PCM_CTRL` selects mono routing (R29). -/
def pcmMonoMode (pcmCtrl : Byte) : Bool := pcmCtrl &&& Config.params.pcmMono != 0#8

/-- Whether `FILTER` mutes the output (R26). -/
def muted (filter : Byte) : Bool := filter &&& Config.params.filtMute != 0#8

end Sys2Proof.Machine
end

