-- ==== Sys2Proof/Machine/Ops.lean ====
section
/-! DEFINITION. The operations the meanings share: admission of a step by the host duties of spec/70 R276, the calls to
collaborators and their draws (spec/30 R77), `Flush` (spec/45 R231), `Produce` (spec/42 R163), `MidiEval` (spec/43
R179), `CompatPush` (spec/40 R130), `DeviceReset` (spec/70 R272), and the FIFO's push, pop and soft reset (spec/43).
The block raises no exception (spec/60 R250); driving the shared interrupt line by `Produce` is the one way it calls
for attention, and its clear-mask write the one acknowledgement (spec/60 R255). -/

namespace Sys2Proof.Machine

open Host (Outcome)

/-! ## Admission and reply -/

/-- The state in which an admitted step with time cursor `t` begins: the host's cursor stands at `t` and nothing is
returned yet. No element of the block changes. -/
def State.enter (s : State) (t : Nat) : State :=
  { s with env := { s.env with cursor := t, reply := .nothing } }

/-- Admission of a step that carries `t` (R13, R14, R276): refused after `CLOSE`, for a `t` above `BUFLEN` and for a `t`
below the last one of the period; otherwise the step completes with `f`. -/
def State.access (s : State) (t : Nat) (f : State → State) : Outcome State Fault Refusal :=
  if s.closed then .refused .afterClose
  else if s.bufLen < t then .refused .cursorOutOfRange
  else if t < s.env.cursor then .refused .cursorDecreased
  else .next (f (s.enter t))

/-- Admission of `CONSTRUCT`, the one entry point that carries no `t` (R14): refused after `CLOSE`. -/
def State.lifecycle (s : State) (f : State → State) : Outcome State Fault Refusal :=
  if s.closed then .refused .afterClose else .next (f (s.enter s.env.cursor))

/-- Admission of a buffer pull of `n` frames at `t` (R14, R276): as any step that carries `t`, and refused for an `n`
above `BUFLEN`. -/
def State.pull (s : State) (n t : Nat) (f : State → State) : Outcome State Fault Refusal :=
  if s.closed then .refused .afterClose
  else if s.bufLen < t then .refused .cursorOutOfRange
  else if t < s.env.cursor then .refused .cursorDecreased
  else if s.bufLen < n then .refused .pullTooLong
  else .next (f (s.enter t))

/-- The step returns `r`. -/
def State.returning (s : State) (r : Reply) : State := { s with env := { s.env with reply := r } }

/-- The step returns the byte `b`, as every read does (R100). -/
def State.returnByte (s : State) (b : Byte) : State := s.returning (.byte b)

/-! ## Calls and draws -/

/-- A call to a collaborator, after every call made before it (R12, R60). -/
def State.call (s : State) (c : Call) : State := { s with env := { s.env with trace := s.env.trace ++ [c] } }

/-- The state after one draw that leaves the answers `supply` ready. -/
def State.drew (s : State) (supply : Supply) : State :=
  { s with env := { s.env with supply := supply, drawn := s.env.drawn + 1 } }

/-- A draw of a value (R77, D40): the oldest answer ready, or else the free value of this draw. Also what is left. -/
def draw {α : Type} (free : Nat → α) (k : Nat) : List α → α × List α
  | [] => (free k, [])
  | a :: rest => (a, rest)

/-- `DmaRead(SEL_DMA)`: one byte of the selected channel, a draw (R55). -/
def State.dmaRead (s : State) : Byte × State :=
  let d := draw Config.dmaByte s.env.drawn s.env.supply.dma
  (d.1, (s.call (.dmaRead s.selDma)).drew { s.env.supply with dma := d.2 })

/-- `SynthRead(off)`: a byte of the synthesizer, a draw (R77, R101). -/
def State.synthRead (s : State) (off : Port) : Byte × State :=
  let d := draw Config.synthByte s.env.drawn s.env.supply.synth
  (d.1, (s.call (.synthRead off)).drew { s.env.supply with synth := d.2 })

/-- The free setting of T1 at a draw. -/
def freeSetting (k : Nat) : TimerSetting :=
  { en := Config.timerEnable k, countPlusOne := Config.timerCount k, period := Config.timerPeriod k,
    repeats := Config.timerRepeat k }

/-- T1 as a setting gives it, the count in -1..65536 (R44). -/
def TimerSetting.toT1 (c : TimerSetting) : T1 :=
  { en := c.en, count := (c.countPlusOne.val : Int) - 1, period := c.period, repeats := c.repeats }

/-- What the timer does to its T1 when the window is accessed: a draw, any value in the ranges of R44 (R56, R114; 93
section 1). -/
def State.timerEffect (s : State) : State :=
  let d := draw freeSetting s.env.drawn s.env.supply.settings
  { s.drew { s.env.supply with settings := d.2 } with t1 := d.1.toT1 }

/-- `TimerRead(i)`: a byte of the timer, a draw, and "whatever effect the collaborator gives it" (R56, R77, R113; log
entry 5). -/
def State.timerRead (s : State) (i : Port) : Byte × State :=
  let d := draw Config.timerByte s.env.drawn s.env.supply.timer
  (d.1, ((s.call (.timerRead i)).drew { s.env.supply with timer := d.2 }).timerEffect)

/-- `TimerWrite(i, v)`: the byte reaches the timer, whose four T1 fields are draws after it (R114; 93 section 1). -/
def State.timerWrite (s : State) (i : Port) (v : Byte) : State := (s.call (.timerWrite i v)).timerEffect

/-- `n` frames of a collaborator from the answers ready and, past them, from the free values of draw `k` on. -/
def drawFrames (free : Nat → Frame) : Nat → Nat → List Frame → List Frame × List Frame
  | 0, _, ready => ([], ready)
  | n + 1, k, ready =>
    let d := draw free k ready
    let r := drawFrames free n (k + 1) d.2
    (d.1 :: r.1, r.2)

/-- `DspMix(n)`: the DSP's `n` frames, draws (R77, R233). -/
def State.dspMix (s : State) (n : Nat) : List Frame × State :=
  let d := drawFrames Config.dspFrame n s.env.drawn s.env.supply.dspFrames
  let s := s.call (.dspMix n)
  (d.1, { s with env := { s.env with supply := { s.env.supply with dspFrames := d.2 }, drawn := s.env.drawn + n } })

/-- `SynthPull(n)`: the synthesizer's `n` frames, draws (R77, R235). -/
def State.synthPull (s : State) (n : Nat) : List Frame × State :=
  let d := drawFrames Config.synthFrame n s.env.drawn s.env.supply.synthFrames
  let s := s.call (.synthPull n)
  (d.1, { s with env := { s.env with supply := { s.env.supply with synthFrames := d.2 }, drawn := s.env.drawn + n } })

/-! ## The output sample buffer -/

/-- One frame of the flush loop: silence if muted, else the latches, at `POS`, which advances (R231). -/
def State.fillFrame (s : State) : State :=
  { s with
    bufL := s.bufL.set s.pos (if muted s.filter then 0#16 else s.latchL)
    bufR := s.bufR.set s.pos (if muted s.filter then 0#16 else s.latchR)
    pos := s.pos + 1 }

/-- `k` frames of the flush loop. -/
def State.fillFrames : Nat → State → State
  | 0, s => s
  | k + 1, s => State.fillFrames k s.fillFrame

/-- `Flush(t)`: frames are filled while `POS < t` (R231). -/
def State.flush (s : State) (t : Nat) : State := s.fillFrames (t - s.pos)

/-! ## The interrupt line -/

/-- Drives the shared line: the call with the mask of the line in force, and the level it leaves (R46, R162, R163). -/
def State.drive (s : State) (level : Bool) : State :=
  { s.call (if level then .irqAssert (lineMask s.selIrq) else .irqDeassert (lineMask s.selIrq)) with line := level }

/-- `Produce(bit, cond)`: set the bit if the event is present, then drive the line from this bit's own status and mask
alone (R163). -/
def State.produce (s : State) (bit : Byte) (cond : Bool) : State :=
  let s := { s with irqStat := raised bit cond s.irqStat }
  s.drive (lineLevel bit s.irqStat s.irqMask)

/-- `MidiEval()`: the MIDI producer on the OR of the ready sub-bits (R175, R179). -/
def State.midiEval (s : State) : State := s.produce Config.params.intMidi (s.txReady || s.rxReady)

/-! ## MIDI -/

/-- Whether the receive FIFO holds data: `RCUR != WCUR` (R42). -/
def State.midiData (s : State) : Bool := s.rcur != s.wcur

/-- MIDI data write: the byte is sent, the transmitter is ready again at once, the producer runs (R180, R185). -/
def State.midiSend (s : State) (v : Byte) : State := ({ s.call (.uartSend v) with txReady := true }).midiEval

/-- The pop of a FIFO that holds data: the slot's flag clears, the cursor advances modulo 16, receive-ready is whether
more data remains, the producer runs (R183). -/
def State.midiPop (s : State) : State :=
  let s := { s with valid := s.valid.set s.rcur false, rcur := s.rcur + 1 }
  ({ s with rxReady := s.midiData }).midiEval

/-- MIDI data read: a pop that returns its byte or, when the FIFO is empty, the stale slot at `RCUR` with no change
(R183, R184). -/
def State.midiRead (s : State) : State :=
  if s.midiData then (s.midiPop).returnByte s.fifo[s.rcur] else s.returnByte s.fifo[s.rcur]

/-- The receive path: the byte and its flag at `WCUR`, which advances modulo 16 with no overflow guard, receive-ready
recomputed, the producer run (R186, R187). -/
def State.midiPush (s : State) (b : Byte) : State :=
  let s := { s with fifo := s.fifo.set s.wcur b, valid := s.valid.set s.wcur true, wcur := s.wcur + 1 }
  ({ s with rxReady := s.midiData }).midiEval

/-- An empty FIFO with its slots kept, and no sub-bit ready: what the soft reset and DeviceReset share (R177, R273). -/
def State.midiEmptied (s : State) : State :=
  { s with rcur := 0, wcur := 0, valid := Vector.replicate Config.fifoDepth false, txReady := false, rxReady := false }

/-! ## Compatibility addresses and reset -/

/-- `CompatPush()`: both addresses, the DSP's first (R130). -/
def State.compatPush (s : State) : State :=
  (s.call (.dspSetAddr (dspAddress s.compat s.compatBase))).call (.uartSetAddr (uartAddress s.compat s.compatBase))

/-- Every element of table 10.1 whose DeviceReset value is not "keep", at that value (R20, R272). -/
def State.resetRegisters (s : State) : State :=
  { s.midiEmptied with
    selIrq := Config.irqEntry 0, selDma := Config.dmaEntry 0,
    mixer := 0x00#8, irqStat := 0x00#8, filter := 0x00#8, irqMask := 0x00#8,
    pcmData := 0x0000#16, pcmCtrl := 0x00#8, scsi := 0x00#8, sysConf1 := 0x00#8, sysConf2 := 0x00#8,
    sysConf3 := 0x00#8, sysConf4 := 0x00#8, wait := 0x00#8, ioConf1 := 0x00#8, ioConf2 := 0x00#8, ioConf3 := 0x00#8,
    ioConf4 := 0x00#8, compat := 0x00#8, compatBase := 0x00#8, sbIrqDma := 0x00#8, midiCtrl := 0x00#8,
    midiStat := 0xFF#8, latchL := 0x0000#16, latchR := 0x0000#16 }

/-- `DeviceReset(t)`: flush with the old latches, reset the registers, deassert the line in force before the reset,
push the compatibility addresses and `DspSetIrqDma(0x00)` (R272). -/
def State.deviceReset (s : State) (t : Nat) : State :=
  let s := s.flush t
  let r := { (s.resetRegisters).call (.irqDeassert (lineMask s.selIrq)) with line := false }
  (r.compatPush).call (.dspSetIrqDma 0x00#8)

/-! ## The sampler -/

/-- `Assemble()`: one sample unit from the selected channel in the mode of `SYS_CONF_2`, then the MSB invert
(R203-R206). -/
def State.assemble (s : State) : Sample × State :=
  if wideSamples s.sysConf2 then
    let hi := s.dmaRead
    let lo := hi.2.dmaRead
    (msbInvert s.sysConf2 (sample16 hi.1 lo.1), lo.2)
  else
    let b := s.dmaRead
    (msbInvert s.sysConf2 (sample8 b.1), b.2)

/-- `Route(s)`: both latches in mono; in stereo the latch the toggle names, which then flips (R207, R208). -/
def State.route (s : State) (x : Sample) : State :=
  if pcmMonoMode s.pcmCtrl then { s with latchL := x, latchR := x }
  else if s.stereoR then { s with latchR := x, stereoR := false }
  else { s with latchL := x, stereoR := true }

/-- The countdown's decrement, 2 in 16-bit mode and 1 in 8-bit mode (R210). -/
def countStep (sysConf2 : Byte) : Int := if wideSamples sysConf2 then 2 else 1

/-- The count a repeat-mode underflow reloads: the period, 0 counting as 65536 (R212). -/
def T1.reload (c : T1) : Int := if c.period = 0#16 then 65536 else (c.period.toNat : Int)

/-- Underflow after the decrement: the count is at or below 0 (R211). -/
def T1.underflows (c : T1) (dec : Int) : Bool := decide (c.count - dec ≤ 0)

/-- T1 after one countdown: decremented; on underflow reloaded in repeat mode, else left at the wrap sentinel -1 and
disabled (R210-R212). -/
def T1.countdown (c : T1) (dec : Int) : T1 :=
  if c.underflows dec then
    if c.repeats then { c with count := c.reload } else { c with count := -1, en := false }
  else { c with count := c.count - dec }

/-- `Countdown()`: T1 counts down, and on underflow the PCM producer runs (R210-R213). -/
def State.countdown (s : State) : State :=
  let dec := countStep s.sysConf2
  let r := { s with t1 := s.t1.countdown dec }
  if s.t1.underflows dec then r.produce Config.params.intPcm true else r

/-- `Tick(t)` (R201, R202): flush, the sample-rate producer, then, while T1 is enabled, a sample if PCM is enabled, and
the countdown. -/
def State.tickOp (s : State) (t : Nat) : State :=
  let s := (s.flush t).produce Config.params.intSamp true
  if s.t1.en then
    if pcmEnabled s.pcmCtrl then
      let x := s.assemble
      (x.2.route x.1).countdown
    else s.countdown
  else s

/-! ## Buffer pulls -/

/-- Frame `i` of a list of frames; the lists a pull reads hold at least `n` frames. -/
def frameAt (fs : List Frame) (i : Nat) : Frame := fs.getD i ⟨0, 0⟩

/-- The attenuated latched PCM frame `i` of the sample buffer (R233, R234). -/
def State.pcmFrame (s : State) (i : Nat) : Frame :=
  ⟨Config.atten (s16 (s.bufL.getD i 0#16)), Config.atten (s16 (s.bufR.getD i 0#16))⟩

/-- The accumulator of a main pull: frame by frame the caller's, the DSP's and the attenuated PCM frame (R233). -/
def mixPcm (s : State) (n : Nat) (acc dsp : List Frame) : List Frame :=
  (List.range n).map fun i =>
    ⟨(frameAt acc i).l + (frameAt dsp i).l + (s.pcmFrame i).l, (frameAt acc i).r + (frameAt dsp i).r + (s.pcmFrame i).r⟩

/-- The accumulator of a synthesizer pull: frame by frame the caller's and the synthesizer's, unchanged (R235). -/
def mixSynth (n : Nat) (acc synth : List Frame) : List Frame :=
  (List.range n).map fun i =>
    ⟨(frameAt acc i).l + (frameAt synth i).l, (frameAt acc i).r + (frameAt synth i).r⟩

end Sys2Proof.Machine
end

