-- ==== Sys2Proof/Machine/Board.lean ====
section
/-! DEFINITION. Board revision, model ID, SCSI flag and wait state (spec/40_decode_dispatch.md R138-R145). -/

namespace Sys2Proof.Machine

open Host (Outcome)

/-- `IN_BOARD_REV`, canonical 0x2789: the constant (R142). -/
def execInBoardRev (t : Nat) (s : State) : Outcome State Fault Refusal :=
  s.access t fun s => s.returnByte Config.params.boardRev

/-- `OUT_BOARD_REV`, canonical 0x2789: the write is ignored (R143). -/
def execOutBoardRev (_v : Byte) (t : Nat) (s : State) : Outcome State Fault Refusal :=
  s.access t fun s => s

/-- `IN_SCSI`, canonical 0x7f89: the stored byte (R140). -/
def execInScsi (t : Nat) (s : State) : Outcome State Fault Refusal :=
  s.access t fun s => s.returnByte s.scsi

/-- `OUT_SCSI`, canonical 0x7f89: the byte is stored (R141). -/
def execOutScsi (v : Byte) (t : Nat) (s : State) : Outcome State Fault Refusal :=
  s.access t fun s => { s with scsi := v }

/-- `IN_WAIT`, canonical 0xbf88: the stored byte (R138). -/
def execInWait (t : Nat) (s : State) : Outcome State Fault Refusal :=
  s.access t fun s => s.returnByte s.wait

/-- `OUT_WAIT`, canonical 0xbf88: the byte is stored (R139). -/
def execOutWait (v : Byte) (t : Nat) (s : State) : Outcome State Fault Refusal :=
  s.access t fun s => { s with wait := v }

/-- `IN_BOARD_ID`, canonical 0xff88: the constant (R144). -/
def execInBoardId (t : Nat) (s : State) : Outcome State Fault Refusal :=
  s.access t fun s => s.returnByte Config.params.boardId

/-- `OUT_BOARD_ID`, canonical 0xff88: the write is ignored (R145). -/
def execOutBoardId (_v : Byte) (t : Nat) (s : State) : Outcome State Fault Refusal :=
  s.access t fun s => s

end Sys2Proof.Machine
end

