-- ==== Sys2Proof/Machine/Bus.lean ====
section
/-! DEFINITION. Base select, unmapped and unbound accesses (spec/41_relocation.md R151, R156; spec/40_decode_dispatch.md
R146-R148). -/

namespace Sys2Proof.Machine

open Host (Outcome)

/-- `OUT_BASE_SELECT`: the windows answer at the new base, a multiple of 4; nothing else changes (R151, R152). -/
def execOutBaseSelect (v : Byte) (t : Nat) (s : State) : Outcome State Fault Refusal :=
  s.access t fun s => { s with base := newBase v }

/-- `IN_BASE_SELECT`: an unbound access (R156): the block takes no step and the bus returns 0xFF (R148; log entry 14). -/
def execInBaseSelect (_t : Nat) (s : State) : Outcome State Fault Refusal :=
  .next (s.returnByte Config.params.float)

/-- `IN_UNMAPPED`: the floating value (R146). -/
def execInUnmapped (_off : Port) (t : Nat) (s : State) : Outcome State Fault Refusal :=
  s.access t fun s => s.returnByte Config.params.float

/-- `OUT_UNMAPPED`: the write is accepted and ignored (R147). -/
def execOutUnmapped (_off : Port) (_v : Byte) (t : Nat) (s : State) : Outcome State Fault Refusal :=
  s.access t fun s => s

/-- `UNBOUND`: the access does not reach the block, which takes no step; a read returns the bus value 0xFF (R148; log
entry 14). -/
def execUnbound (_port : Port) (data : Option Byte) (_t : Nat) (s : State) : Outcome State Fault Refusal :=
  .next (s.returning (if data.isNone then .byte Config.params.float else .nothing))

end Sys2Proof.Machine
end

