-- ==== Sys2Proof/Machine/Compat.lean ====
section
/-! DEFINITION. Compatibility addressing and the legacy DSP assignment (spec/40_decode_dispatch.md R130-R137). -/

namespace Sys2Proof.Machine

open Host (Outcome)

/-- `IN_COMPAT`, canonical 0xf788: the stored byte (R132). -/
def execInCompat (t : Nat) (s : State) : Outcome State Fault Refusal :=
  s.access t fun s => s.returnByte s.compat

/-- `OUT_COMPAT`, canonical 0xf788: the byte is stored and both addresses are pushed (R133). -/
def execOutCompat (v : Byte) (t : Nat) (s : State) : Outcome State Fault Refusal :=
  s.access t fun s => { s with compat := v }.compatPush

/-- `IN_COMPAT_BASE`, canonical 0xf789: the stored byte (R134). -/
def execInCompatBase (t : Nat) (s : State) : Outcome State Fault Refusal :=
  s.access t fun s => s.returnByte s.compatBase

/-- `OUT_COMPAT_BASE`, canonical 0xf789: the byte is stored and both addresses are pushed (R135). -/
def execOutCompatBase (v : Byte) (t : Nat) (s : State) : Outcome State Fault Refusal :=
  s.access t fun s => { s with compatBase := v }.compatPush

/-- `IN_SB_IRQDMA`, canonical 0xfb8a: the stored byte (R136). -/
def execInSbIrqDma (t : Nat) (s : State) : Outcome State Fault Refusal :=
  s.access t fun s => s.returnByte s.sbIrqDma

/-- `OUT_SB_IRQDMA`, canonical 0xfb8a: the byte is stored and forwarded unchanged (R137). -/
def execOutSbIrqDma (v : Byte) (t : Nat) (s : State) : Outcome State Fault Refusal :=
  s.access t fun s => { s with sbIrqDma := v }.call (.dspSetIrqDma v)

end Sys2Proof.Machine
end

