-- ==== Sys2Proof/Machine/Interrupt.lean ====
section
/-! DEFINITION. The interrupt status and mask registers (spec/42_interrupt.md R164-R167). -/

namespace Sys2Proof.Machine

open Host (Outcome)

/-- `IN_IRQ_STAT`, canonical 0xb89: the stored byte (R164). Reading clears nothing. -/
def execInIrqStat (t : Nat) (s : State) : Outcome State Fault Refusal :=
  s.access t fun s => s.returnByte s.irqStat

/-- `OUT_IRQ_STAT`, canonical 0xb89: the byte is a clear mask; the line is not driven (R165). -/
def execOutIrqStat (v : Byte) (t : Nat) (s : State) : Outcome State Fault Refusal :=
  s.access t fun s => { s with irqStat := cleared v s.irqStat }

/-- `IN_IRQ_MASK`, canonical 0xb8b: the stored byte (R166). -/
def execInIrqMask (t : Nat) (s : State) : Outcome State Fault Refusal :=
  s.access t fun s => s.returnByte s.irqMask

/-- `OUT_IRQ_MASK`, canonical 0xb8b: the byte is stored (R167). The line is not driven. -/
def execOutIrqMask (v : Byte) (t : Nat) (s : State) : Outcome State Fault Refusal :=
  s.access t fun s => { s with irqMask := v }

end Sys2Proof.Machine
end

