-- ==== Sys2Proof/Machine/IoConfig.lean ====
section
/-! DEFINITION. The I/O-config bytes and the lines and channels they select (spec/40_decode_dispatch.md R123-R131). -/

namespace Sys2Proof.Machine

open Host (Outcome)

/-- `IN_IO_CONF_1`, canonical 0xf388: the stored byte (R123). -/
def execInIoConf1 (t : Nat) (s : State) : Outcome State Fault Refusal :=
  s.access t fun s => s.returnByte s.ioConf1

/-- `OUT_IO_CONF_1`, canonical 0xf388: the byte is stored (R124). -/
def execOutIoConf1 (v : Byte) (t : Nat) (s : State) : Outcome State Fault Refusal :=
  s.access t fun s => { s with ioConf1 := v }

/-- `IN_IO_CONF_2`, canonical 0xf389: the stored byte (R125). -/
def execInIoConf2 (t : Nat) (s : State) : Outcome State Fault Refusal :=
  s.access t fun s => s.returnByte s.ioConf2

/-- `OUT_IO_CONF_2`, canonical 0xf389: the byte is stored and selects the DMA channel (R127). -/
def execOutIoConf2 (v : Byte) (t : Nat) (s : State) : Outcome State Fault Refusal :=
  s.access t fun s => { s with ioConf2 := v, selDma := dmaChannel v }

/-- `IN_IO_CONF_3`, canonical 0xf38a: the stored byte (R126). -/
def execInIoConf3 (t : Nat) (s : State) : Outcome State Fault Refusal :=
  s.access t fun s => s.returnByte s.ioConf3

/-- `OUT_IO_CONF_3`, canonical 0xf38a: the byte is stored and selects the IRQ line; no line is driven (R128). -/
def execOutIoConf3 (v : Byte) (t : Nat) (s : State) : Outcome State Fault Refusal :=
  s.access t fun s => { s with ioConf3 := v, selIrq := irqLine v }

/-- `IN_IO_CONF_4`, canonical 0xf38b: the stored byte (R129). -/
def execInIoConf4 (t : Nat) (s : State) : Outcome State Fault Refusal :=
  s.access t fun s => s.returnByte s.ioConf4

/-- `OUT_IO_CONF_4`, canonical 0xf38b: the byte is stored (R131). -/
def execOutIoConf4 (v : Byte) (t : Nat) (s : State) : Outcome State Fault Refusal :=
  s.access t fun s => { s with ioConf4 := v }

end Sys2Proof.Machine
end

