-- ==== Sys2Proof/Machine/Lifecycle.lean ====
section
/-! DEFINITION. Construction, reset and close (spec/70_reset_and_hazards.md R270-R275). -/

namespace Sys2Proof.Machine

open Host (Outcome)

/-- `HOST_RESET`: DeviceReset (R274). -/
def execHostReset (t : Nat) (s : State) : Outcome State Fault Refusal :=
  s.access t fun s => s.deviceReset t

/-- `CONSTRUCT`: a new block at its "Ctor" values, then `CompatPush()` and `DspSetIrqDma(0x00)` (R270). `BUFLEN`, the pending
events and the collaborators' answers are the outside's and stay (log entry 13). -/
def execConstruct (passthrough : Bool) (s : State) : Outcome State Fault Refusal :=
  s.lifecycle fun s =>
    let fresh := State.atConstruction passthrough s.bufLen { s.env with trace := [], reply := .nothing, cursor := 0 }
    fresh.compatPush.call (.dspSetIrqDma 0x00#8)

/-- `CLOSE`: the block is released and no step follows; `State.decode` finds its windows unbound from then on (R271; log
entry 12). -/
def execClose (s : State) (t : Nat := 0) : Outcome State Fault Refusal :=
  s.access t fun s => { s with closed := true }

end Sys2Proof.Machine
end

