-- ==== Sys2Proof/Machine/Midi.lean ====
section
/-! DEFINITION. The MIDI registers, the receive FIFO and the receive path (spec/43_midi.md). -/

namespace Sys2Proof.Machine

open Host (Outcome)

/-- `IN_MIDI_CTRL`, canonical 0x1789: the stored byte (R176). -/
def execInMidiCtrl (t : Nat) (s : State) : Outcome State Fault Refusal :=
  s.access t fun s => s.returnByte s.midiCtrl

/-- `OUT_MIDI_CTRL`, canonical 0x1789: with both bits of 0x60 set, a transmit and FIFO soft reset that stores nothing;
otherwise the byte is stored (R177, R178). -/
def execOutMidiCtrl (v : Byte) (t : Nat) (s : State) : Outcome State Fault Refusal :=
  s.access t fun s => if softReset v then s.midiEmptied.midiEval else { s with midiCtrl := v }

/-- `IN_MIDI_DATA`, canonical 0x178a: the FIFO pop (R183). -/
def execInMidiData (t : Nat) (s : State) : Outcome State Fault Refusal :=
  s.access t fun s => s.midiRead

/-- `OUT_MIDI_DATA`, canonical 0x178a: the byte is sent (R180). -/
def execOutMidiData (v : Byte) (t : Nat) (s : State) : Outcome State Fault Refusal :=
  s.access t fun s => s.midiSend v

/-- `IN_MIDI_DATA_ALIAS`, canonical 0x178b: identical to `IN_MIDI_DATA` (R184). -/
def execInMidiDataAlias (t : Nat) (s : State) : Outcome State Fault Refusal :=
  s.access t fun s => s.midiRead

/-- `OUT_MIDI_DATA_ALIAS`, canonical 0x178b: identical to `OUT_MIDI_DATA` (R185). -/
def execOutMidiDataAlias (v : Byte) (t : Nat) (s : State) : Outcome State Fault Refusal :=
  s.access t fun s => s.midiSend v

/-- `IN_MIDI_STAT`, canonical 0x1b88: the stored byte (R181). The ready sub-bits are not merged in. -/
def execInMidiStat (t : Nat) (s : State) : Outcome State Fault Refusal :=
  s.access t fun s => s.returnByte s.midiStat

/-- `OUT_MIDI_STAT`, canonical 0x1b88: the write is ignored (R182). -/
def execOutMidiStat (_v : Byte) (t : Nat) (s : State) : Outcome State Fault Refusal :=
  s.access t fun s => s

/-- `MIDI_IN`: an incoming byte, pushed when passthrough is enabled and without effect when not (R186, R187). -/
def execMidiIn (byte : Byte) (t : Nat) (s : State) : Outcome State Fault Refusal :=
  s.access t fun s => if s.midiPassthrough then s.midiPush byte else s

end Sys2Proof.Machine
end

