-- ==== Sys2Proof/Machine/Mixer.lean ====
section
/-! DEFINITION. The mixer and filter registers (spec/40_decode_dispatch.md R103-R106). -/

namespace Sys2Proof.Machine

open Host (Outcome)

/-- `IN_MIXER`, canonical 0xb88: the stored byte (R103). -/
def execInMixer (t : Nat) (s : State) : Outcome State Fault Refusal :=
  s.access t fun s => s.returnByte s.mixer

/-- `OUT_MIXER`, canonical 0xb88: the byte is stored (R104). No flush. -/
def execOutMixer (v : Byte) (t : Nat) (s : State) : Outcome State Fault Refusal :=
  s.access t fun s => { s with mixer := v }

/-- `IN_FILTER`, canonical 0xb8a: the stored byte (R106). -/
def execInFilter (t : Nat) (s : State) : Outcome State Fault Refusal :=
  s.access t fun s => s.returnByte s.filter

/-- `OUT_FILTER`, canonical 0xb8a: flush under the old byte, then store (R105). -/
def execOutFilter (v : Byte) (t : Nat) (s : State) : Outcome State Fault Refusal :=
  s.access t fun s => { s.flush t with filter := v }

end Sys2Proof.Machine
end

