-- ==== Sys2Proof/Machine/Output.lean ====
section
/-! DEFINITION. The buffer pulls (spec/45_output_stage.md R233, R235). -/

namespace Sys2Proof.Machine

open Host (Outcome)

/-- `PULL_PCM`: flush to `n`, mix the DSP's and the attenuated PCM frames into the accumulator, `POS` to 0, reset the DSP's
cursor (R233). `t` is only checked (R14); the host's cursor starts a new period (log entry 10). -/
def execPullPcm (n : Nat) (acc : List Frame) (s : State) (t : Nat := 0) : Outcome State Fault Refusal :=
  s.pull n t fun s =>
    let d := (s.flush n).dspMix n
    let r := { d.2 with pos := 0 }.call .dspBufReset
    { r with env := { r.env with reply := .frames (mixPcm d.2 n acc d.1), cursor := 0 } }

/-- `PULL_SYNTH`: the synthesizer's frames unchanged into the accumulator, its buffer reset; no state of the block is
touched (R235). -/
def execPullSynth (n : Nat) (acc : List Frame) (s : State) (t : Nat := 0) : Outcome State Fault Refusal :=
  s.pull n t fun s =>
    let d := s.synthPull n
    (d.2.call .synthBufReset).returning (.frames (mixSynth n acc d.1))

end Sys2Proof.Machine
end

