-- ==== Sys2Proof/Machine/Pcm.lean ====
section
/-! DEFINITION. The PCM data and control registers (spec/40_decode_dispatch.md R107-R112). -/

namespace Sys2Proof.Machine

open Host (Outcome)

/-- `IN_PCM_DATA_LO`, canonical 0xf88: write-only, reads as the floating value (R111). -/
def execInPcmDataLo (t : Nat) (s : State) : Outcome State Fault Refusal :=
  s.access t fun s => s.returnByte Config.params.float

/-- `OUT_PCM_DATA_LO`, canonical 0xf88: flush, then the low byte (R107). -/
def execOutPcmDataLo (v : Byte) (t : Nat) (s : State) : Outcome State Fault Refusal :=
  s.access t fun s => { s.flush t with pcmData := withLowByte s.pcmData v }

/-- `IN_PCM_DATA_HI`, canonical 0xf89: write-only, reads as the floating value (R112). -/
def execInPcmDataHi (t : Nat) (s : State) : Outcome State Fault Refusal :=
  s.access t fun s => s.returnByte Config.params.float

/-- `OUT_PCM_DATA_HI`, canonical 0xf89: flush, then the high byte (R108). -/
def execOutPcmDataHi (v : Byte) (t : Nat) (s : State) : Outcome State Fault Refusal :=
  s.access t fun s => { s.flush t with pcmData := withHighByte s.pcmData v }

/-- `IN_PCM_CTRL`, canonical 0xf8a: the stored byte (R110). -/
def execInPcmCtrl (t : Nat) (s : State) : Outcome State Fault Refusal :=
  s.access t fun s => s.returnByte s.pcmCtrl

/-- `OUT_PCM_CTRL`, canonical 0xf8a: a 0-to-1 edge of `PCM_ENA` resets the stereo toggle to left next; the byte is stored
(R109). -/
def execOutPcmCtrl (v : Byte) (t : Nat) (s : State) : Outcome State Fault Refusal :=
  s.access t fun s => { s with stereoR := if pcmEnableEdge v s.pcmCtrl then false else s.stereoR, pcmCtrl := v }

end Sys2Proof.Machine
end

