-- ==== Sys2Proof/Machine/Sampler.lean ====
section
/-! DEFINITION. The timer tick (spec/44_pcm_sampler.md R201). -/

namespace Sys2Proof.Machine

open Host (Outcome)

/-- `TICK`: flush, the sample-rate interrupt, and while T1 is enabled the sample and the countdown (R201). -/
def execTick (t : Nat) (s : State) : Outcome State Fault Refusal :=
  s.access t fun s => s.tickOp t

end Sys2Proof.Machine
end

