-- ==== Sys2Proof/Machine/Synth.lean ====
section
/-! DEFINITION. The synthesizer window, canonical 0x388-0x38b (spec/40_decode_dispatch.md R101, R102). -/

namespace Sys2Proof.Machine

open Host (Outcome)

/-- `IN_SYNTH`: the byte the synthesizer answers for the canonical offset (R101). -/
def execInSynth (off : Port) (t : Nat) (s : State) : Outcome State Fault Refusal :=
  s.access t fun s => let r := s.synthRead off; r.2.returnByte r.1

/-- `OUT_SYNTH`: the byte goes to the synthesizer with the canonical offset (R102). -/
def execOutSynth (off : Port) (v : Byte) (t : Nat) (s : State) : Outcome State Fault Refusal :=
  s.access t fun s => s.call (.synthWrite off v)

end Sys2Proof.Machine
end

