-- ==== Sys2Proof/Machine/SysConfig.lean ====
section
/-! DEFINITION. The system-config bytes (spec/40_decode_dispatch.md R115-R122). -/

namespace Sys2Proof.Machine

open Host (Outcome)

/-- `IN_SYS_CONF_1`, canonical 0x8388: the stored byte (R115). -/
def execInSysConf1 (t : Nat) (s : State) : Outcome State Fault Refusal :=
  s.access t fun s => s.returnByte s.sysConf1

/-- `OUT_SYS_CONF_1`, canonical 0x8388: a 0-to-1 edge of bit 7 runs DeviceReset; then the byte is stored (R116). -/
def execOutSysConf1 (v : Byte) (t : Nat) (s : State) : Outcome State Fault Refusal :=
  s.access t fun s => { (if systemResetEdge v s.sysConf1 then s.deviceReset t else s) with sysConf1 := v }

/-- `IN_SYS_CONF_2`, canonical 0x8389: the stored byte (R117). -/
def execInSysConf2 (t : Nat) (s : State) : Outcome State Fault Refusal :=
  s.access t fun s => s.returnByte s.sysConf2

/-- `OUT_SYS_CONF_2`, canonical 0x8389: the byte is stored (R118). No flush. -/
def execOutSysConf2 (v : Byte) (t : Nat) (s : State) : Outcome State Fault Refusal :=
  s.access t fun s => { s with sysConf2 := v }

/-- `IN_SYS_CONF_3`, canonical 0x838a: the stored byte (R119). -/
def execInSysConf3 (t : Nat) (s : State) : Outcome State Fault Refusal :=
  s.access t fun s => s.returnByte s.sysConf3

/-- `OUT_SYS_CONF_3`, canonical 0x838a: the byte is stored (R120). -/
def execOutSysConf3 (v : Byte) (t : Nat) (s : State) : Outcome State Fault Refusal :=
  s.access t fun s => { s with sysConf3 := v }

/-- `IN_SYS_CONF_4`, canonical 0x838b: the stored byte (R121). -/
def execInSysConf4 (t : Nat) (s : State) : Outcome State Fault Refusal :=
  s.access t fun s => s.returnByte s.sysConf4

/-- `OUT_SYS_CONF_4`, canonical 0x838b: the byte is stored (R122). -/
def execOutSysConf4 (v : Byte) (t : Nat) (s : State) : Outcome State Fault Refusal :=
  s.access t fun s => { s with sysConf4 := v }

end Sys2Proof.Machine
end

