-- ==== Sys2Proof/Machine/Timer.lean ====
section
/-! DEFINITION. The timer window, canonical 0x1388-0x138b (spec/40_decode_dispatch.md R113, R114; log entry 5). -/

namespace Sys2Proof.Machine

open Host (Outcome)

/-- `IN_TIMER`: the byte the timer answers for the window register, and whatever the read does to T1 (R56, R113). -/
def execInTimer (off : Port) (t : Nat) (s : State) : Outcome State Fault Refusal :=
  s.access t fun s => let r := s.timerRead (timerIndex off); r.2.returnByte r.1

/-- `OUT_TIMER`: the byte goes to the timer, which may set T1 to anything in its ranges (R114). -/
def execOutTimer (off : Port) (v : Byte) (t : Nat) (s : State) : Outcome State Fault Refusal :=
  s.access t fun s => s.timerWrite (timerIndex off) v

end Sys2Proof.Machine
end

