-- ==== Sys2Proof/Machine/Dispatch.lean ====
section
/-! DEFINITION. The meaning of every instruction: one arm per constructor of `Instr`, each one direct call. -/

namespace Sys2Proof.Machine

open Host (Outcome)

-- One atomic step of the block (R8, R13). The block raises no exception (R250).
def exec (i : Instr) (s : State) : Host.Outcome State Fault Refusal :=
  match i with
  | .inSynth off t => Sys2Proof.Machine.execInSynth off t s
  | .outSynth off v t => Sys2Proof.Machine.execOutSynth off v t s
  | .inMixer t => Sys2Proof.Machine.execInMixer t s
  | .outMixer v t => Sys2Proof.Machine.execOutMixer v t s
  | .inIrqStat t => Sys2Proof.Machine.execInIrqStat t s
  | .outIrqStat v t => Sys2Proof.Machine.execOutIrqStat v t s
  | .inFilter t => Sys2Proof.Machine.execInFilter t s
  | .outFilter v t => Sys2Proof.Machine.execOutFilter v t s
  | .inIrqMask t => Sys2Proof.Machine.execInIrqMask t s
  | .outIrqMask v t => Sys2Proof.Machine.execOutIrqMask v t s
  | .inPcmDataLo t => Sys2Proof.Machine.execInPcmDataLo t s
  | .outPcmDataLo v t => Sys2Proof.Machine.execOutPcmDataLo v t s
  | .inPcmDataHi t => Sys2Proof.Machine.execInPcmDataHi t s
  | .outPcmDataHi v t => Sys2Proof.Machine.execOutPcmDataHi v t s
  | .inPcmCtrl t => Sys2Proof.Machine.execInPcmCtrl t s
  | .outPcmCtrl v t => Sys2Proof.Machine.execOutPcmCtrl v t s
  | .inTimer off t => Sys2Proof.Machine.execInTimer off t s
  | .outTimer off v t => Sys2Proof.Machine.execOutTimer off v t s
  | .inMidiCtrl t => Sys2Proof.Machine.execInMidiCtrl t s
  | .outMidiCtrl v t => Sys2Proof.Machine.execOutMidiCtrl v t s
  | .inMidiData t => Sys2Proof.Machine.execInMidiData t s
  | .outMidiData v t => Sys2Proof.Machine.execOutMidiData v t s
  | .inMidiDataAlias t => Sys2Proof.Machine.execInMidiDataAlias t s
  | .outMidiDataAlias v t => Sys2Proof.Machine.execOutMidiDataAlias v t s
  | .inMidiStat t => Sys2Proof.Machine.execInMidiStat t s
  | .outMidiStat v t => Sys2Proof.Machine.execOutMidiStat v t s
  | .inBoardRev t => Sys2Proof.Machine.execInBoardRev t s
  | .outBoardRev v t => Sys2Proof.Machine.execOutBoardRev v t s
  | .inScsi t => Sys2Proof.Machine.execInScsi t s
  | .outScsi v t => Sys2Proof.Machine.execOutScsi v t s
  | .inSysConf1 t => Sys2Proof.Machine.execInSysConf1 t s
  | .outSysConf1 v t => Sys2Proof.Machine.execOutSysConf1 v t s
  | .inSysConf2 t => Sys2Proof.Machine.execInSysConf2 t s
  | .outSysConf2 v t => Sys2Proof.Machine.execOutSysConf2 v t s
  | .inSysConf3 t => Sys2Proof.Machine.execInSysConf3 t s
  | .outSysConf3 v t => Sys2Proof.Machine.execOutSysConf3 v t s
  | .inSysConf4 t => Sys2Proof.Machine.execInSysConf4 t s
  | .outSysConf4 v t => Sys2Proof.Machine.execOutSysConf4 v t s
  | .inWait t => Sys2Proof.Machine.execInWait t s
  | .outWait v t => Sys2Proof.Machine.execOutWait v t s
  | .inIoConf1 t => Sys2Proof.Machine.execInIoConf1 t s
  | .outIoConf1 v t => Sys2Proof.Machine.execOutIoConf1 v t s
  | .inIoConf2 t => Sys2Proof.Machine.execInIoConf2 t s
  | .outIoConf2 v t => Sys2Proof.Machine.execOutIoConf2 v t s
  | .inIoConf3 t => Sys2Proof.Machine.execInIoConf3 t s
  | .outIoConf3 v t => Sys2Proof.Machine.execOutIoConf3 v t s
  | .inIoConf4 t => Sys2Proof.Machine.execInIoConf4 t s
  | .outIoConf4 v t => Sys2Proof.Machine.execOutIoConf4 v t s
  | .inCompat t => Sys2Proof.Machine.execInCompat t s
  | .outCompat v t => Sys2Proof.Machine.execOutCompat v t s
  | .inCompatBase t => Sys2Proof.Machine.execInCompatBase t s
  | .outCompatBase v t => Sys2Proof.Machine.execOutCompatBase v t s
  | .inSbIrqDma t => Sys2Proof.Machine.execInSbIrqDma t s
  | .outSbIrqDma v t => Sys2Proof.Machine.execOutSbIrqDma v t s
  | .inBoardId t => Sys2Proof.Machine.execInBoardId t s
  | .outBoardId v t => Sys2Proof.Machine.execOutBoardId v t s
  | .outBaseSelect v t => Sys2Proof.Machine.execOutBaseSelect v t s
  | .inBaseSelect t => Sys2Proof.Machine.execInBaseSelect t s
  | .inUnmapped off t => Sys2Proof.Machine.execInUnmapped off t s
  | .outUnmapped off v t => Sys2Proof.Machine.execOutUnmapped off v t s
  | .unbound port data t => Sys2Proof.Machine.execUnbound port data t s
  | .tick t => Sys2Proof.Machine.execTick t s
  | .midiIn byte t => Sys2Proof.Machine.execMidiIn byte t s
  | .pullPcm n acc t => Sys2Proof.Machine.execPullPcm n acc s t
  | .pullSynth n acc t => Sys2Proof.Machine.execPullSynth n acc s t
  | .hostReset t => Sys2Proof.Machine.execHostReset t s
  | .construct passthrough => Sys2Proof.Machine.execConstruct passthrough s
  | .close t => Sys2Proof.Machine.execClose s t

end Sys2Proof.Machine
end

