-- ==== Sys2Proof/WellFormed.lean ====
section
/-! DEFINITION. Which instructions the formats of spec/30_encoding.md can carry, at a given `BASE`: the canonical
offsets of a window, of an unmapped access, the ports no window holds, and the length of an accumulator. -/

namespace Sys2Proof

/-- The values `BASE` can have: a multiple of 4 in [0x000, 0x3FC] (R21). -/
def legalBase (base : Port) : Bool :=
  base &&& 0x3#16 == 0#16 && decide (base.toNat ≤ 0x3FC)

/-- Whether a canonical offset lies in one of the 4-port windows `W..W+3` of R150. -/
def windowOffset (off : Port) : Bool :=
  Config.params.windows.any fun w => w == off || w + 1 == off || w + 2 == off || w + 3 == off

/-- The four offsets of a register window (R101, R113). -/
def fourFrom (w : Port) : List Port := [w, w + 1, w + 2, w + 3]

/-- The canonical offsets of table 30.2 that have a row (R73). -/
def rowOffsets : List Port :=
  let o := Config.params.offsets
  fourFrom o.synth ++ fourFrom o.timer ++
    [o.mixer, o.irqStat, o.filter, o.irqMask, o.pcmDataLo, o.pcmDataHi, o.pcmCtrl, o.midiCtrl, o.midiData,
      o.midiDataAlias, o.midiStat, o.boardRev, o.scsi, o.sysConf1, o.sysConf2, o.sysConf3, o.sysConf4, o.wait,
      o.ioConf1, o.ioConf2, o.ioConf3, o.ioConf4, o.compat, o.compatBase, o.sbIrqDma, o.boardId]

/-- An operand is one its format can carry. For a window register, `off` is one of the window's four offsets (R101,
R102, R113, R114); an unmapped access has an offset in a window with no row (R146); an unbound access has a port that
is not the base-select port (whose accesses have rows of their own) and lies in no window (R148); a pull has an
accumulator of `n` frames (table 30.1). -/
def WellFormed (base : Port) : Instr → Bool
  | .inSynth off _ => off &&& 0xFFFC#16 == Config.params.offsets.synth
  | .outSynth off _ _ => off &&& 0xFFFC#16 == Config.params.offsets.synth
  | .inTimer off _ => off &&& 0xFFFC#16 == Config.params.offsets.timer
  | .outTimer off _ _ => off &&& 0xFFFC#16 == Config.params.offsets.timer
  | .inUnmapped off _ => windowOffset off && !rowOffsets.contains off
  | .outUnmapped off _ _ => windowOffset off && !rowOffsets.contains off
  | .unbound port _ _ => port != Config.params.baseSelectPort && !windowOffset (port - base + Config.params.canonRef)
  | .pullPcm n acc _ => acc.length == n
  | .pullSynth n acc _ => acc.length == n
  | .inMixer _ => true
  | .outMixer _ _ => true
  | .inIrqStat _ => true
  | .outIrqStat _ _ => true
  | .inFilter _ => true
  | .outFilter _ _ => true
  | .inIrqMask _ => true
  | .outIrqMask _ _ => true
  | .inPcmDataLo _ => true
  | .outPcmDataLo _ _ => true
  | .inPcmDataHi _ => true
  | .outPcmDataHi _ _ => true
  | .inPcmCtrl _ => true
  | .outPcmCtrl _ _ => true
  | .inMidiCtrl _ => true
  | .outMidiCtrl _ _ => true
  | .inMidiData _ => true
  | .outMidiData _ _ => true
  | .inMidiDataAlias _ => true
  | .outMidiDataAlias _ _ => true
  | .inMidiStat _ => true
  | .outMidiStat _ _ => true
  | .inBoardRev _ => true
  | .outBoardRev _ _ => true
  | .inScsi _ => true
  | .outScsi _ _ => true
  | .inSysConf1 _ => true
  | .outSysConf1 _ _ => true
  | .inSysConf2 _ => true
  | .outSysConf2 _ _ => true
  | .inSysConf3 _ => true
  | .outSysConf3 _ _ => true
  | .inSysConf4 _ => true
  | .outSysConf4 _ _ => true
  | .inWait _ => true
  | .outWait _ _ => true
  | .inIoConf1 _ => true
  | .outIoConf1 _ _ => true
  | .inIoConf2 _ => true
  | .outIoConf2 _ _ => true
  | .inIoConf3 _ => true
  | .outIoConf3 _ _ => true
  | .inIoConf4 _ => true
  | .outIoConf4 _ _ => true
  | .inCompat _ => true
  | .outCompat _ _ => true
  | .inCompatBase _ => true
  | .outCompatBase _ _ => true
  | .inSbIrqDma _ => true
  | .outSbIrqDma _ _ => true
  | .inBoardId _ => true
  | .outBoardId _ _ => true
  | .outBaseSelect _ _ => true
  | .inBaseSelect _ => true
  | .tick _ => true
  | .midiIn _ _ => true
  | .hostReset _ => true
  | .construct _ => true
  | .close _ => true

end Sys2Proof
end

