-- ==== Sys2Proof/Decode.lean ====
section
/-! DEFINITION. Decoding a host event to an instruction (spec/30_encoding.md R71-R76, spec/41_relocation.md R150), the
encoder, the split of wider host accesses (spec/20_memory.md R54) and the pseudo-events of R78. An event's encoding is
the tuple of its format's fields (R79); the numbering of events by `HostEvent.ofNumber` is the model's own
(log entry 1). -/

namespace Sys2Proof

/-! ## Canonical offsets -/

/-- The canonical offset of a port: `(port - BASE + 0x388) mod 0x10000` (R72). -/
def canonicalOffset (base port : Port) : Port := port - base + Config.params.canonRef

/-- The port at which a canonical offset answers: `BASE + (c - 0x388)` (R153). -/
def portOf (base off : Port) : Port := base + (off - Config.params.canonRef)

/-- A port is bound exactly when its canonical offset lies in a window `W..W+3` (R150). Every window start is a
multiple of 4, so the window of an offset is the offset without its two low bits. -/
def bound (base port : Port) : Bool :=
  Config.params.windows.contains (canonicalOffset base port &&& 0xFFFC#16)

/-! ## The register map -/

/-- A row of table 30.2: the canonical offsets that agree with `pattern` on `mask`, and what a read and a write of one
of them decode to. -/
structure RegisterRow where
  /-- canonical offset, its free bits 0 -/
  pattern : Port
  /-- the bits of the offset that select the row -/
  mask : Port
  /-- the instruction of a read, from the offset and `t` -/
  read : Port → Nat → Instr
  /-- the instruction of a write, from the offset, the byte and `t` -/
  write : Port → Byte → Nat → Instr

/-- The canonical register map, table 30.2 in its order (R73). -/
def registerMap : List RegisterRow :=
  let o := Config.params.offsets
  [⟨o.synth, 0xFFFC#16, .inSynth, .outSynth⟩,
    ⟨o.mixer, 0xFFFF#16, fun _ => .inMixer, fun _ => .outMixer⟩,
    ⟨o.irqStat, 0xFFFF#16, fun _ => .inIrqStat, fun _ => .outIrqStat⟩,
    ⟨o.filter, 0xFFFF#16, fun _ => .inFilter, fun _ => .outFilter⟩,
    ⟨o.irqMask, 0xFFFF#16, fun _ => .inIrqMask, fun _ => .outIrqMask⟩,
    ⟨o.pcmDataLo, 0xFFFF#16, fun _ => .inPcmDataLo, fun _ => .outPcmDataLo⟩,
    ⟨o.pcmDataHi, 0xFFFF#16, fun _ => .inPcmDataHi, fun _ => .outPcmDataHi⟩,
    ⟨o.pcmCtrl, 0xFFFF#16, fun _ => .inPcmCtrl, fun _ => .outPcmCtrl⟩,
    ⟨o.timer, 0xFFFC#16, .inTimer, .outTimer⟩,
    ⟨o.midiCtrl, 0xFFFF#16, fun _ => .inMidiCtrl, fun _ => .outMidiCtrl⟩,
    ⟨o.midiData, 0xFFFF#16, fun _ => .inMidiData, fun _ => .outMidiData⟩,
    ⟨o.midiDataAlias, 0xFFFF#16, fun _ => .inMidiDataAlias, fun _ => .outMidiDataAlias⟩,
    ⟨o.midiStat, 0xFFFF#16, fun _ => .inMidiStat, fun _ => .outMidiStat⟩,
    ⟨o.boardRev, 0xFFFF#16, fun _ => .inBoardRev, fun _ => .outBoardRev⟩,
    ⟨o.scsi, 0xFFFF#16, fun _ => .inScsi, fun _ => .outScsi⟩,
    ⟨o.sysConf1, 0xFFFF#16, fun _ => .inSysConf1, fun _ => .outSysConf1⟩,
    ⟨o.sysConf2, 0xFFFF#16, fun _ => .inSysConf2, fun _ => .outSysConf2⟩,
    ⟨o.sysConf3, 0xFFFF#16, fun _ => .inSysConf3, fun _ => .outSysConf3⟩,
    ⟨o.sysConf4, 0xFFFF#16, fun _ => .inSysConf4, fun _ => .outSysConf4⟩,
    ⟨o.wait, 0xFFFF#16, fun _ => .inWait, fun _ => .outWait⟩,
    ⟨o.ioConf1, 0xFFFF#16, fun _ => .inIoConf1, fun _ => .outIoConf1⟩,
    ⟨o.ioConf2, 0xFFFF#16, fun _ => .inIoConf2, fun _ => .outIoConf2⟩,
    ⟨o.ioConf3, 0xFFFF#16, fun _ => .inIoConf3, fun _ => .outIoConf3⟩,
    ⟨o.ioConf4, 0xFFFF#16, fun _ => .inIoConf4, fun _ => .outIoConf4⟩,
    ⟨o.compat, 0xFFFF#16, fun _ => .inCompat, fun _ => .outCompat⟩,
    ⟨o.compatBase, 0xFFFF#16, fun _ => .inCompatBase, fun _ => .outCompatBase⟩,
    ⟨o.sbIrqDma, 0xFFFF#16, fun _ => .inSbIrqDma, fun _ => .outSbIrqDma⟩,
    ⟨o.boardId, 0xFFFF#16, fun _ => .inBoardId, fun _ => .outBoardId⟩]

/-- The row of a canonical offset, if it has one (R149: at most one row has it). -/
def registerRow (off : Port) : Option RegisterRow :=
  registerMap.find? fun r => off &&& r.mask == r.pattern

/-! ## Decoding -/

/-- A read of a port that is not bound (R148): the base-select port's has a row of its own (R156). -/
def missedRead (port : Port) (t : Nat) : Instr :=
  if port = Config.params.baseSelectPort then .inBaseSelect t else .unbound port none t

/-- Decoding of an I/O read (R71). The base-select port is never bound (R154), so a read of it is the unbound access
of R156, which the opcode table gives a row of its own. -/
def decodeRead (base port : Port) (t : Nat) : Instr :=
  if bound base port then
    match registerRow (canonicalOffset base port) with
    | some r => r.read (canonicalOffset base port) t
    | none => .inUnmapped (canonicalOffset base port) t
  else missedRead port t

/-- Decoding of an I/O write (R71): the base-select port is tested first. -/
def decodeWrite (base port : Port) (v : Byte) (t : Nat) : Instr :=
  if port = Config.params.baseSelectPort then .outBaseSelect v t
  else if bound base port then
    match registerRow (canonicalOffset base port) with
    | some r => r.write (canonicalOffset base port) v t
    | none => .outUnmapped (canonicalOffset base port) v t
  else .unbound port (some v) t

/-- The instruction a host event decodes to at the given `BASE`, the only state the decoder reads (R76, R149). -/
def decode (base : Port) : HostEvent → Except DecodeError Instr
  | .ioRead port t => .ok (decodeRead base port t)
  | .ioWrite port v t => .ok (decodeWrite base port v t)
  | .tick t => .ok (.tick t)
  | .midiIn b t => .ok (.midiIn b t)
  | .pullPcm n acc t => if acc.length = n then .ok (.pullPcm n acc t) else .error (.accumulatorLength n acc.length)
  | .pullSynth n acc t => if acc.length = n then .ok (.pullSynth n acc t) else .error (.accumulatorLength n acc.length)
  | .hostReset t => .ok (.hostReset t)
  | .construct p => .ok (.construct p)
  | .close t => .ok (.close t)

/-- Decoding once CLOSE has unbound the windows (R271): every access but a write of the base-select port, which is no
window's, is then unbound (R148); any other event as before. -/
def decodeClosed (base : Port) : HostEvent → Except DecodeError Instr
  | .ioRead port t => .ok (missedRead port t)
  | .ioWrite port v t =>
    .ok (if port = Config.params.baseSelectPort then .outBaseSelect v t else .unbound port (some v) t)
  | e => decode base e

/-! ## Encoding -/

/-- The host event of an instruction at the given `BASE`: its tuple in the encoding of R79. -/
def encode (base : Port) : Instr → HostEvent
  | .inSynth off t => .ioRead (portOf base off) t
  | .outSynth off v t => .ioWrite (portOf base off) v t
  | .inMixer t => .ioRead (portOf base Config.params.offsets.mixer) t
  | .outMixer v t => .ioWrite (portOf base Config.params.offsets.mixer) v t
  | .inIrqStat t => .ioRead (portOf base Config.params.offsets.irqStat) t
  | .outIrqStat v t => .ioWrite (portOf base Config.params.offsets.irqStat) v t
  | .inFilter t => .ioRead (portOf base Config.params.offsets.filter) t
  | .outFilter v t => .ioWrite (portOf base Config.params.offsets.filter) v t
  | .inIrqMask t => .ioRead (portOf base Config.params.offsets.irqMask) t
  | .outIrqMask v t => .ioWrite (portOf base Config.params.offsets.irqMask) v t
  | .inPcmDataLo t => .ioRead (portOf base Config.params.offsets.pcmDataLo) t
  | .outPcmDataLo v t => .ioWrite (portOf base Config.params.offsets.pcmDataLo) v t
  | .inPcmDataHi t => .ioRead (portOf base Config.params.offsets.pcmDataHi) t
  | .outPcmDataHi v t => .ioWrite (portOf base Config.params.offsets.pcmDataHi) v t
  | .inPcmCtrl t => .ioRead (portOf base Config.params.offsets.pcmCtrl) t
  | .outPcmCtrl v t => .ioWrite (portOf base Config.params.offsets.pcmCtrl) v t
  | .inTimer off t => .ioRead (portOf base off) t
  | .outTimer off v t => .ioWrite (portOf base off) v t
  | .inMidiCtrl t => .ioRead (portOf base Config.params.offsets.midiCtrl) t
  | .outMidiCtrl v t => .ioWrite (portOf base Config.params.offsets.midiCtrl) v t
  | .inMidiData t => .ioRead (portOf base Config.params.offsets.midiData) t
  | .outMidiData v t => .ioWrite (portOf base Config.params.offsets.midiData) v t
  | .inMidiDataAlias t => .ioRead (portOf base Config.params.offsets.midiDataAlias) t
  | .outMidiDataAlias v t => .ioWrite (portOf base Config.params.offsets.midiDataAlias) v t
  | .inMidiStat t => .ioRead (portOf base Config.params.offsets.midiStat) t
  | .outMidiStat v t => .ioWrite (portOf base Config.params.offsets.midiStat) v t
  | .inBoardRev t => .ioRead (portOf base Config.params.offsets.boardRev) t
  | .outBoardRev v t => .ioWrite (portOf base Config.params.offsets.boardRev) v t
  | .inScsi t => .ioRead (portOf base Config.params.offsets.scsi) t
  | .outScsi v t => .ioWrite (portOf base Config.params.offsets.scsi) v t
  | .inSysConf1 t => .ioRead (portOf base Config.params.offsets.sysConf1) t
  | .outSysConf1 v t => .ioWrite (portOf base Config.params.offsets.sysConf1) v t
  | .inSysConf2 t => .ioRead (portOf base Config.params.offsets.sysConf2) t
  | .outSysConf2 v t => .ioWrite (portOf base Config.params.offsets.sysConf2) v t
  | .inSysConf3 t => .ioRead (portOf base Config.params.offsets.sysConf3) t
  | .outSysConf3 v t => .ioWrite (portOf base Config.params.offsets.sysConf3) v t
  | .inSysConf4 t => .ioRead (portOf base Config.params.offsets.sysConf4) t
  | .outSysConf4 v t => .ioWrite (portOf base Config.params.offsets.sysConf4) v t
  | .inWait t => .ioRead (portOf base Config.params.offsets.wait) t
  | .outWait v t => .ioWrite (portOf base Config.params.offsets.wait) v t
  | .inIoConf1 t => .ioRead (portOf base Config.params.offsets.ioConf1) t
  | .outIoConf1 v t => .ioWrite (portOf base Config.params.offsets.ioConf1) v t
  | .inIoConf2 t => .ioRead (portOf base Config.params.offsets.ioConf2) t
  | .outIoConf2 v t => .ioWrite (portOf base Config.params.offsets.ioConf2) v t
  | .inIoConf3 t => .ioRead (portOf base Config.params.offsets.ioConf3) t
  | .outIoConf3 v t => .ioWrite (portOf base Config.params.offsets.ioConf3) v t
  | .inIoConf4 t => .ioRead (portOf base Config.params.offsets.ioConf4) t
  | .outIoConf4 v t => .ioWrite (portOf base Config.params.offsets.ioConf4) v t
  | .inCompat t => .ioRead (portOf base Config.params.offsets.compat) t
  | .outCompat v t => .ioWrite (portOf base Config.params.offsets.compat) v t
  | .inCompatBase t => .ioRead (portOf base Config.params.offsets.compatBase) t
  | .outCompatBase v t => .ioWrite (portOf base Config.params.offsets.compatBase) v t
  | .inSbIrqDma t => .ioRead (portOf base Config.params.offsets.sbIrqDma) t
  | .outSbIrqDma v t => .ioWrite (portOf base Config.params.offsets.sbIrqDma) v t
  | .inBoardId t => .ioRead (portOf base Config.params.offsets.boardId) t
  | .outBoardId v t => .ioWrite (portOf base Config.params.offsets.boardId) v t
  | .outBaseSelect v t => .ioWrite Config.params.baseSelectPort v t
  | .inBaseSelect t => .ioRead Config.params.baseSelectPort t
  | .inUnmapped off t => .ioRead (portOf base off) t
  | .outUnmapped off v t => .ioWrite (portOf base off) v t
  | .unbound port none t => .ioRead port t
  | .unbound port (some v) t => .ioWrite port v t
  | .tick t => .tick t
  | .midiIn b t => .midiIn b t
  | .pullPcm n acc t => .pullPcm n acc t
  | .pullSynth n acc t => .pullSynth n acc t
  | .hostReset t => .hostReset t
  | .construct p => .construct p
  | .close t => .close t

/-- The format of a host event (table 30.1). -/
def HostEvent.format : HostEvent → Format
  | .ioRead _ _ => .ioRead
  | .ioWrite _ _ _ => .ioWrite
  | .tick _ => .tick
  | .midiIn _ _ => .midiIn
  | .pullPcm _ _ _ => .pullPcm
  | .pullSynth _ _ _ => .pullSynth
  | .hostReset _ => .hostReset
  | .construct _ => .construct
  | .close _ => .close

/-! ## Events as numbers (log entry 1) -/

/-- An accumulator of `n` frames, all zero: what a script's pull starts from (R78). -/
def zeroAccumulator (n : Nat) : List Frame := List.replicate n ⟨0, 0⟩

/-- How many low zero bits a number has, counting at most `fuel`. -/
def lowZeros : Nat → Nat → Nat
  | 0, _ => 0
  | fuel + 1, x => if x % 2 = 0 then lowZeros fuel (x / 2) + 1 else 0

/-- DESIGN CHOICE (log entry 1): the event with the number `w`. Bits 15..0 are the port, as spec/opcode_table.json
numbers them; bits 23..16 the format code, the format's place in table 30.1 counted from 0; bits 31..24 the byte (bit 24
alone for `CONSTRUCT`); the bits above are `t`. For a pull the bits above are `2 ^ n * (2 * t + 1)`, and its accumulator
starts all zero, as in R78. -/
def HostEvent.ofNumber (w : Nat) : Except DecodeError HostEvent :=
  let port : Port := BitVec.ofNat 16 w
  let data : Byte := BitVec.ofNat 8 (w / 2 ^ 24)
  let t := w / 2 ^ 32
  let n := lowZeros t t
  match w / 2 ^ 16 % 256 with
  | 0 => .ok (.ioRead port t)
  | 1 => .ok (.ioWrite port data t)
  | 2 => .ok (.tick t)
  | 3 => .ok (.midiIn data t)
  | 4 => .ok (.pullPcm n (zeroAccumulator n) (t / 2 ^ (n + 1)))
  | 5 => .ok (.pullSynth n (zeroAccumulator n) (t / 2 ^ (n + 1)))
  | 6 => .ok (.hostReset t)
  | 7 => .ok (.construct (data.getLsbD 0))
  | 8 => .ok (.close t)
  | code => .error (.unknownFormat code)

/-- DESIGN CHOICE (log entry 1): the number of an event, less a pull's accumulator. -/
def HostEvent.toNumber : HostEvent → Nat
  | .ioRead port t => port.toNat + t * 2 ^ 32
  | .ioWrite port v t => port.toNat + 1 * 2 ^ 16 + v.toNat * 2 ^ 24 + t * 2 ^ 32
  | .tick t => 2 * 2 ^ 16 + t * 2 ^ 32
  | .midiIn b t => 3 * 2 ^ 16 + b.toNat * 2 ^ 24 + t * 2 ^ 32
  | .pullPcm n _ t => 4 * 2 ^ 16 + 2 ^ n * (2 * t + 1) * 2 ^ 32
  | .pullSynth n _ t => 5 * 2 ^ 16 + 2 ^ n * (2 * t + 1) * 2 ^ 32
  | .hostReset t => 6 * 2 ^ 16 + t * 2 ^ 32
  | .construct p => 7 * 2 ^ 16 + p.toNat * 2 ^ 24
  | .close t => 8 * 2 ^ 16 + t * 2 ^ 32

/-- The instruction of a word of spec/opcode_table.json: the event whose low `nbits` bits are those of `w` and whose
other bits are 0, decoded at the base of construction, where canonical offsets are ports (R72). The table gives the read
and the write of a register the same 16 bits; bits 23..16 are then 0, which is `IO_READ` (log entry 1). -/
def decodeTableWord (nbits w : Nat) : Option Instr :=
  match HostEvent.ofNumber (w % 2 ^ nbits) with
  | .ok e => (decode Config.params.baseReset e).toOption
  | .error _ => none

/-! ## Wider host accesses and pseudo-events -/

/-- A host write of `k` bytes is `k` byte writes at ascending ports, the low byte first (R54). -/
def wideWrite (port : Port) (k v t : Nat) : List HostEvent :=
  (List.range k).map fun i => .ioWrite (port + BitVec.ofNat 16 i) (BitVec.ofNat 8 (v / 2 ^ (8 * i))) t

/-- A host read of `k` bytes is `k` byte reads at ascending ports (R54). -/
def wideRead (port : Port) (k t : Nat) : List HostEvent :=
  (List.range k).map fun i => .ioRead (port + BitVec.ofNat 16 i) t

/-- The result of a wide read: the byte of the first port is bits 7:0, the next bits 15:8, and so on (R54). -/
def assembleWide : List Byte → Nat
  | [] => 0
  | b :: bs => b.toNat + 256 * assembleWide bs

/-- `outw PORT, WORD` (R78). -/
def outw (port : Port) (word : BitVec 16) (t : Nat) : List HostEvent := wideWrite port 2 word.toNat t

/-- `setbase V` is `out 0x9A01, V` (R78). -/
def setbase (v : Byte) (t : Nat) : HostEvent := .ioWrite Config.params.baseSelectPort v t

/-- `clrint M` is `out BASE+0x801, M`, canonical 0xb89 (R78). -/
def clrint (base : Port) (m : Byte) (t : Nat) : HostEvent := .ioWrite (base + 0x801#16) m t

/-- `ack` is `clrint 0xFF` (R78). -/
def ack (base : Port) (t : Nat) : HostEvent := clrint base 0xFF#8 t

end Sys2Proof
end

