-- ==== Sys2Proof/Machine/Fetch.lean ====
section
/-! DEFINITION. What an event decodes to in a state (spec/30_encoding.md R71): by `BASE` while the windows are bound, and
as an unbound access once CLOSE has unbound them (spec/70_reset_and_hazards.md R271). -/

namespace Sys2Proof.Machine

/-- The instruction an event decodes to in the state: at its `BASE` (R71, R76), or with no window bound after `CLOSE`
(R148, R271). -/
def State.decode (s : State) (e : HostEvent) : Except DecodeError Instr :=
  if s.closed then decodeClosed s.base e else Sys2Proof.decode s.base e

end Sys2Proof.Machine
end

