-- ==== Sys2Proof/Machine/Step.lean ====
section
/-! DEFINITION. One step of the machine: the oldest pending host event, decoded at the current `BASE`, is executed
(spec/20_memory.md R59, spec/30_encoding.md R71). -/

namespace Sys2Proof.Machine

open Host (Outcome)

/-- The step. With no event pending the block takes no step and the state stays (log entry 2). An event leaves the
queue before it is executed; what is no event of table 30.1 is refused by name. -/
def step (s : State) : Outcome State Fault Refusal :=
  match s.env.inputs with
  | [] => .next s
  | e :: rest =>
    match s.decode e with
    | .ok i => exec i { s with env := { s.env with inputs := rest } }
    | .error r => .refused (.undecodable r)

/-- The same state with `e` the next event to arrive. -/
def State.offer (s : State) (e : HostEvent) : State :=
  { s with env := { s.env with inputs := e :: s.env.inputs } }

/-- `s` with the instruction of the table word `w` the next event to arrive, at the port where `s` answers its canonical
offset (log entries 1 and 2). A word that is no event leaves `s` as it is. -/
def State.withFetchWord (s : State) (nbits w : Nat) : State :=
  match decodeTableWord nbits w with
  | some i => s.offer (encode s.base i)
  | none => s

end Sys2Proof.Machine
end

