-- ==== Sys2Proof/Safety.lean ====
section
/-! DEFINITION. The terms the statements use: when a step is admitted (spec/70_reset_and_hazards.md R276), runs of
several instructions, the level a record of calls leaves on the interrupt line (spec/10_state.md R46), and the
invariants of the block (spec/10_state.md R49). -/

namespace Sys2Proof.Machine

open Host (Outcome)

/-! ## Admission -/

/-- A step with time cursor `t` is admitted: the block is not closed and `t` lies between the last cursor of the period
and `BUFLEN` (R276). -/
abbrev Admitted (s : State) (t : Nat) : Prop :=
  s.closed = false ∧ s.env.cursor ≤ t ∧ t ≤ s.bufLen

/-- A pull of `n` frames at `t` is admitted: a step with `t` is, and `n` is at most `BUFLEN` (R14, R276). -/
abbrev PullAdmitted (s : State) (n t : Nat) : Prop :=
  Admitted s t ∧ n ≤ s.bufLen

/-- Steps with the time cursors `ts`, one after the other, are admitted: the block is not closed, and the cursors do not
decrease, from the last one of the period on, and stay at or below `BUFLEN` (R276). -/
abbrev AdmittedRun (s : State) (ts : List Nat) : Prop :=
  s.closed = false ∧ (s.env.cursor :: ts).Pairwise (· ≤ ·) ∧ ∀ t ∈ ts, t ≤ s.bufLen

/-- The time cursor an instruction brings to the block: every entry point but construction brings one (R14). An unbound
access, the read of the base-select port among them, reaches no block and brings none (R148, R156). -/
def timeOf : Instr → Option Nat
  | .inSynth _ t | .outSynth _ _ t | .inMixer t | .outMixer _ t | .inIrqStat t | .outIrqStat _ t | .inFilter t
  | .outFilter _ t | .inIrqMask t | .outIrqMask _ t | .inPcmDataLo t | .outPcmDataLo _ t | .inPcmDataHi t
  | .outPcmDataHi _ t | .inPcmCtrl t | .outPcmCtrl _ t | .inTimer _ t | .outTimer _ _ t | .inMidiCtrl t
  | .outMidiCtrl _ t | .inMidiData t | .outMidiData _ t | .inMidiDataAlias t | .outMidiDataAlias _ t | .inMidiStat t
  | .outMidiStat _ t | .inBoardRev t | .outBoardRev _ t | .inScsi t | .outScsi _ t | .inSysConf1 t | .outSysConf1 _ t
  | .inSysConf2 t | .outSysConf2 _ t | .inSysConf3 t | .outSysConf3 _ t | .inSysConf4 t | .outSysConf4 _ t | .inWait t
  | .outWait _ t | .inIoConf1 t | .outIoConf1 _ t | .inIoConf2 t | .outIoConf2 _ t | .inIoConf3 t | .outIoConf3 _ t
  | .inIoConf4 t | .outIoConf4 _ t | .inCompat t | .outCompat _ t | .inCompatBase t | .outCompatBase _ t
  | .inSbIrqDma t | .outSbIrqDma _ t | .inBoardId t | .outBoardId _ t | .outBaseSelect _ t | .inUnmapped _ t
  | .outUnmapped _ _ t | .tick t | .midiIn _ t | .pullPcm _ _ t | .pullSynth _ _ t | .hostReset t | .close t => some t
  | .inBaseSelect _ | .unbound _ _ _ | .construct _ => none

/-- The frames a pull asks for. -/
def framesOf : Instr → Option Nat
  | .pullPcm n _ _ | .pullSynth n _ _ => some n
  | _ => none

/-- Whether an instruction reaches the block: all but the unbound accesses (R148, R156). -/
def reachesBlock : Instr → Bool
  | .unbound _ _ _ | .inBaseSelect _ => false
  | _ => true

/-- The host duties of R276 hold for the instruction in the state. -/
abbrev HostDuties (s : State) (i : Instr) : Prop :=
  (reachesBlock i = true → s.closed = false) ∧
    (∀ t ∈ timeOf i, s.env.cursor ≤ t ∧ t ≤ s.bufLen) ∧ ∀ n ∈ framesOf i, n ≤ s.bufLen

/-! ## Runs -/

/-- The instructions one after the other, stopping at the first refusal. -/
def execAll : List Instr → State → Outcome State Fault Refusal
  | [], s => .next s
  | i :: is, s =>
    match exec i s with
    | .next s' => execAll is s'
    | .fault r => .fault r
    | .refused r => .refused r

/-! ## Calls -/

/-- Whether a call drives the interrupt line. -/
def Call.drivesLine : Call → Bool
  | .irqAssert _ | .irqDeassert _ => true
  | _ => false

/-- The level of the line after one more call. -/
def levelAfter (level : Bool) : Call → Bool
  | .irqAssert _ => true
  | .irqDeassert _ => false
  | _ => level

/-- The level a record of calls leaves on the line, which starts deasserted (R46, R270). -/
def drivenLevel (trace : List Call) : Bool := trace.foldl levelAfter false

/-- The call a producer makes: assert or deassert by the mask of IRQ line `sel` (R162, R163). -/
def lineCall (level : Bool) (sel : Fin 16) : Call :=
  if level then .irqAssert (1#16 <<< sel.val) else .irqDeassert (1#16 <<< sel.val)

/-- A state after some more calls, in this order. -/
def State.calls (s : State) (cs : List Call) : State :=
  { s with env := { s.env with trace := s.env.trace ++ cs } }

/-! ## The output sample buffer -/

/-- What a flush up to `t` gives from `s` (R231): `POS` is at `t` or where it was past it, and every frame between is
silence under a set mute bit and otherwise the latched samples; every other frame is as it was. -/
structure Flushed (s s' : State) (t : Nat) : Prop where
  /-- the fill cursor -/
  pos_eq : s'.pos = max s.pos t
  /-- as many frames as before -/
  lengthL : s'.bufL.length = s.bufL.length
  /-- as many frames as before -/
  lengthR : s'.bufR.length = s.bufR.length
  /-- the left frames -/
  frameL : ∀ k < s.bufL.length, s'.bufL.getD k 0#16 =
    if s.pos ≤ k ∧ k < t then (if s.filter &&& Config.params.filtMute ≠ 0#8 then 0#16 else s.latchL)
    else s.bufL.getD k 0#16
  /-- the right frames -/
  frameR : ∀ k < s.bufR.length, s'.bufR.getD k 0#16 =
    if s.pos ≤ k ∧ k < t then (if s.filter &&& Config.params.filtMute ≠ 0#8 then 0#16 else s.latchR)
    else s.bufR.getD k 0#16

/-! ## The receive FIFO as a queue -/

/-- How many slots of the FIFO are unread: from `RCUR` up to `WCUR` around the ring (R42). -/
def State.unreadCount (s : State) : Nat := (s.wcur - s.rcur).val

/-- The unread bytes of the FIFO, the next one to be read first (R42). -/
def State.unread (s : State) : List Byte :=
  (List.range s.unreadCount).map fun k => s.fifo[(s.rcur + Fin.ofNat Config.fifoDepth k).val]

/-! ## Invariants -/

/-- Every unread slot of the FIFO, from `RCUR` up to `WCUR` around the ring, has its flag set (R42, R188). -/
abbrev UnreadSlotsValid (s : State) : Prop :=
  ∀ k : Fin Config.fifoDepth, k.val < s.unreadCount → s.valid[(s.rcur + k).val] = true

/-- What holds of the block after construction and after every step, from any state in which it holds. -/
structure BlockInv (s : State) : Prop where
  /-- `BASE` is a multiple of 4 in [0x000, 0x3FC] (R21, R49). -/
  base_legal : legalBase s.base = true
  /-- `SEL_IRQ` is the entry of `IRQ_TABLE` that `IO_CONF_3` selects (R22, R37). -/
  selIrq_selected : s.selIrq = irqLine s.ioConf3
  /-- `SEL_DMA` is the entry of `DMA_TABLE` that `IO_CONF_2` selects (R23, R36). -/
  selDma_selected : s.selDma = dmaChannel s.ioConf2
  /-- Bits 0, 1, 5, 6, 7 of `IRQ_STAT` read 0 (R25). -/
  irqStat_reserved : s.irqStat &&& 0xE3#8 = 0#8
  /-- `RX_READY` equals `RCUR != WCUR` (R41, R49, R189). -/
  rxReady_iff_data : s.rxReady = (s.rcur != s.wcur)
  /-- `MIDI_STAT` reads 0xFF (R40). -/
  midiStat_ones : s.midiStat = 0xFF#8
  /-- `T1.COUNT` lies in -1..65536, the range R44 names and 93 section 1 draws it from after a timer-window write; after a
  timer-window read this is log entry 5, after CONSTRUCT log entry 6. -/
  count_range : -1 ≤ s.t1.count ∧ s.t1.count ≤ 65536
  /-- `BUFLEN` is positive (D43). -/
  bufLen_pos : 0 < s.bufLen
  /-- `BUF_L` has `BUFLEN` frames (R45). -/
  bufL_length : s.bufL.length = s.bufLen
  /-- `BUF_R` has `BUFLEN` frames (R45). -/
  bufR_length : s.bufR.length = s.bufLen
  /-- `POS` is at most `BUFLEN` (R45). -/
  pos_le : s.pos ≤ s.bufLen
  /-- The host's time cursor is at most `BUFLEN` (R14). -/
  cursor_le : s.env.cursor ≤ s.bufLen
  /-- `LINE` is the level of the last `IrqAssert` or `IrqDeassert` (R46). -/
  line_driven : s.line = drivenLevel s.env.trace

end Sys2Proof.Machine
end

