-- ==== Sys2Proof/Certificates/Slice0/Obligations.lean ====
section
/-! DEFINITION. The statements for the provers. Each docstring names the rule of spec/ it formalises, or, for a derived
statement, the sections it rests on and, where it rests on a choice, whose choice that is: "decided by the spec" is a
D-entry of spec/92_eei_decisions.md, "the model's choice" a log entry of notes/assumptions. Free values (draws) are
only ever named through the draw itself, so a statement holds for every value of them. `s.enter t` is `s` with the
model's own record of the step's `t` and an empty reply (log entries 3 and 10), no element of the block changed. -/

open Sys2Proof Sys2Proof.Machine
open Host (Outcome)

/-! ## Decoding and encoding -/

/-- Decode and encode agree (R71-R74, R79): at every base `BASE` can have, a well-formed instruction is what its event
decodes to. -/
def Obligations.DecodeOfEncodeIsInstruction : Prop :=
  ∀ (base : Port) (i : Instr), legalBase base = true → WellFormed base i = true → decode base (encode base i) = .ok i

/-- The other direction: what an event decodes to is well-formed, and encodes to that event, so no part of an event is
dropped (R71-R74, R79, R149); the second holds too once CLOSE has unbound the windows (R148, R271). -/
def Obligations.EncodeOfDecodeIsEvent : Prop :=
  (∀ (base : Port) (e : HostEvent) (i : Instr), legalBase base = true → decode base e = .ok i →
    WellFormed base i = true ∧ encode base i = e) ∧
  (∀ (base : Port) (e : HostEvent) (i : Instr), legalBase base = true → decodeClosed base e = .ok i →
    encode base i = e)

/-- The model's numbering of events (the model's choice, log entry 1) loses nothing but an accumulator, which starts at
all zero as in R78. -/
def Obligations.NumberedEventsReadBack : Prop :=
  ∀ e : HostEvent,
    (∀ n acc t, e = .pullPcm n acc t ∨ e = .pullSynth n acc t → acc = zeroAccumulator n) →
    HostEvent.ofNumber e.toNumber = .ok e

/-- A few accesses of 95_test_vectors.md decode as listed there (V-DEC-2, V-DEC-3, V-DEC-6, V-DEC-8, V-DEC-13,
V-DEC-14, V-DEC-15): a sanity statement. -/
def Obligations.ListedAccessesDecode : Prop :=
  decode 0x388#16 (.ioRead 0x0b89#16 0) = .ok (.inIrqStat 0) ∧
  decode 0x384#16 (.ioRead 0x0b85#16 0) = .ok (.inIrqStat 0) ∧
  decode 0x3fc#16 (.ioRead 0xffff#16 0) = .ok (.inUnmapped 0xff8b#16 0) ∧
  decode 0x3fc#16 (.ioRead 0x0000#16 0) = .ok (.unbound 0x0000#16 none 0) ∧
  decode 0x388#16 (.ioWrite 0x9a01#16 0x62#8 0) = .ok (.outBaseSelect 0x62#8 0) ∧
  decode 0x388#16 (.ioRead 0x9a01#16 0) = .ok (.inBaseSelect 0) ∧
  decode 0x000#16 (.ioRead 0x9a01#16 0) = .ok (.inBaseSelect 0)

/-- A step runs the decoded instruction: the oldest pending event leaves the queue, and the step is `exec` of what it
decodes to, by `BASE` while the block is not closed (R59, R71, R76). With no event pending the block takes no step (the
model's choice, log entry 2). -/
def Obligations.StepRunsDecodedInstruction : Prop :=
  (∀ (s : State) (e : HostEvent) (rest : List HostEvent) (i : Instr),
    s.env.inputs = e :: rest → s.decode e = .ok i →
    step s = exec i { s with env := { s.env with inputs := rest } }) ∧
  (∀ (s : State) (e : HostEvent), s.closed = false → s.decode e = decode s.base e) ∧
  (∀ s : State, s.env.inputs = [] → step s = .next s)

/-- A table word placed as the next event of a block that is not closed is the instruction the next step runs, where it
is well-formed at the current `BASE`; in any case the next step runs what the placed event decodes to there, so the word
of a port that is unbound at 0x388 and bound now runs as the access of that port's register (R70-R73; the placement is
the model's choice, log entries 1 and 2). -/
def Obligations.FetchWordRunsNext : Prop :=
  ∀ (s : State) (nbits w : Nat) (i : Instr), s.closed = false → decodeTableWord nbits w = some i →
    (legalBase s.base = true → WellFormed s.base i = true → step (s.withFetchWord nbits w) = exec i s) ∧
    ∃ j, decode s.base (encode s.base i) = .ok j ∧ step (s.withFetchWord nbits w) = exec j s

/-- After relocation the same canonical offset reaches the same register: the port `B + (c - 0x388)` decodes alike at
every base (R153). -/
def Obligations.RelocatedPortReachesSameRegister : Prop :=
  ∀ (b b' off : Port) (v : Byte) (t : Nat),
    legalBase b = true → legalBase b' = true → windowOffset off = true →
    decode b (.ioRead (b + (off - 0x388#16)) t) = decode b' (.ioRead (b' + (off - 0x388#16)) t) ∧
    decode b (.ioWrite (b + (off - 0x388#16)) v t) = decode b' (.ioWrite (b' + (off - 0x388#16)) v t)

/-- No bound port is the base-select port: a write of it is always a base-select write, a read of it never reaches the
block (R154, R156). -/
def Obligations.BaseSelectPortIsNeverBound : Prop :=
  ∀ (base : Port) (v : Byte) (t : Nat), legalBase base = true →
    bound base 0x9a01#16 = false ∧
    decode base (.ioWrite 0x9a01#16 v t) = .ok (.outBaseSelect v t) ∧
    decode base (.ioRead 0x9a01#16 t) = .ok (.inBaseSelect t)

/-- A host read of `k` bytes puts the byte of the first port lowest: the bytes a wide write of `v` sends, in the order
it sends them, assemble to `v` (R54, decided by the spec in D3). That every byte carries the `t` of the whole access and
that the ports wrap at 16 bits is the model's choice, log entry 18. -/
def Obligations.WideAccessIsLowByteFirst : Prop :=
  ∀ (port : Port) (k v t : Nat), v < 2 ^ (8 * k) →
    ∃ bytes : List Byte, bytes.length = k ∧ assembleWide bytes = v ∧
      (∀ i < k, (wideWrite port k v t)[i]? = some (.ioWrite (port + BitVec.ofNat 16 i) (bytes.getD i 0#8) t)) ∧
      (wideWrite port k v t).length = k ∧
      ∀ i < k, (wideRead port k t)[i]? = some (.ioRead (port + BitVec.ofNat 16 i) t)

/-! ## Admission -/

/-- A step completes exactly when the host duties of R276 hold; nothing else stops one (R13, R14, R65, R250). What the
duties are in the model rests on its own readings: the record of the last `t` (log entry 10), that a pull and CLOSE carry
`t` (log entry 11), that CONSTRUCT and a second CLOSE are refused after CLOSE (log entry 12), and that an unbound access
owes none (log entry 14). -/
def Obligations.AdmittedStepsComplete : Prop :=
  ∀ (s : State) (i : Instr), (∃ s', exec i s = .next s') ↔ HostDuties s i

/-- A step that breaks a host duty of R276 is refused under the name of that duty. That CONSTRUCT after CLOSE breaks one
is the model's reading (log entry 12), so is the record of the last `t` behind the third clause (log entry 10); which
name it is where several are broken is the model's choice (log entry 17). -/
def Obligations.RefusalNamesTheBrokenDuty : Prop :=
  ∀ (s : State) (i : Instr),
    (reachesBlock i = true → s.closed = true → exec i s = .refused .afterClose) ∧
    (∀ t, timeOf i = some t → s.closed = false → s.bufLen < t → exec i s = .refused .cursorOutOfRange) ∧
    (∀ t, timeOf i = some t → s.closed = false → t ≤ s.bufLen → t < s.env.cursor →
      exec i s = .refused .cursorDecreased) ∧
    (∀ n t, framesOf i = some n → timeOf i = some t → Admitted s t → s.bufLen < n →
      exec i s = .refused .pullTooLong)

/-! ## Plain registers -/

/-- A `MIXER` or `IO_CONF_4` write stores the byte and does nothing else: no flush, no call (R104, R131). -/
def Obligations.MixerAndIoConf4WritesStore : Prop :=
  ∀ (s : State) (v : Byte) (t : Nat), Admitted s t →
    exec (.outMixer v t) s = .next { s.enter t with mixer := v } ∧
    exec (.outIoConf4 v t) s = .next { s.enter t with ioConf4 := v }

/-- The other plain registers store the byte and do nothing else (R118, R120, R122, R124, R139, R141, R167; decided by
the spec in D10, D17, D21). -/
def Obligations.PlainWritesStoreTheByte : Prop :=
  ∀ (s : State) (v : Byte) (t : Nat), Admitted s t →
    exec (.outIrqMask v t) s = .next { s.enter t with irqMask := v } ∧
    exec (.outScsi v t) s = .next { s.enter t with scsi := v } ∧
    exec (.outSysConf2 v t) s = .next { s.enter t with sysConf2 := v } ∧
    exec (.outSysConf3 v t) s = .next { s.enter t with sysConf3 := v } ∧
    exec (.outSysConf4 v t) s = .next { s.enter t with sysConf4 := v } ∧
    exec (.outWait v t) s = .next { s.enter t with wait := v } ∧
    exec (.outIoConf1 v t) s = .next { s.enter t with ioConf1 := v }

/-- A read of the interrupt status returns it and clears nothing (R164). -/
def Obligations.IrqStatReadClearsNothing : Prop :=
  ∀ (s : State) (t : Nat), Admitted s t →
    exec (.inIrqStat t) s = .next ((s.enter t).returning (.byte s.irqStat))

/-- A read of a plain register returns the stored byte and changes nothing (R56, R103, R106, R110, R115, R117, R119,
R121, R123, R125, R126, R129, R132, R134, R136, R138, R140, R166, R176, R181; decided by the spec in D17, D22, D29). -/
def Obligations.PlainReadsReturnTheStoredByte : Prop :=
  ∀ (s : State) (t : Nat), Admitted s t →
    ∀ p ∈ ([(.inMixer t, s.mixer), (.inFilter t, s.filter), (.inIrqMask t, s.irqMask), (.inPcmCtrl t, s.pcmCtrl),
        (.inScsi t, s.scsi), (.inSysConf1 t, s.sysConf1), (.inSysConf2 t, s.sysConf2), (.inSysConf3 t, s.sysConf3),
        (.inSysConf4 t, s.sysConf4), (.inWait t, s.wait), (.inIoConf1 t, s.ioConf1), (.inIoConf2 t, s.ioConf2),
        (.inIoConf3 t, s.ioConf3), (.inIoConf4 t, s.ioConf4), (.inCompat t, s.compat),
        (.inCompatBase t, s.compatBase), (.inSbIrqDma t, s.sbIrqDma), (.inMidiCtrl t, s.midiCtrl),
        (.inMidiStat t, s.midiStat)] : List (Instr × Byte)),
      exec p.1 s = .next ((s.enter t).returning (.byte p.2))

/-- The board revision reads 0x00, the board ID 0x04, the bytes of `PCM_DATA` 0xFF; writes of the revision, of the ID
and of `MIDI_STAT` are ignored (R111, R112, R142-R145, R182; decided by the spec in D16, D18, D22). -/
def Obligations.ConstantsReadAndIgnoreWrites : Prop :=
  ∀ (s : State) (v : Byte) (t : Nat), Admitted s t →
    exec (.inBoardRev t) s = .next ((s.enter t).returning (.byte 0x00#8)) ∧
    exec (.inBoardId t) s = .next ((s.enter t).returning (.byte 0x04#8)) ∧
    exec (.inPcmDataLo t) s = .next ((s.enter t).returning (.byte 0xFF#8)) ∧
    exec (.inPcmDataHi t) s = .next ((s.enter t).returning (.byte 0xFF#8)) ∧
    exec (.outBoardRev v t) s = .next (s.enter t) ∧
    exec (.outBoardId v t) s = .next (s.enter t) ∧
    exec (.outMidiStat v t) s = .next (s.enter t)

/-- An unmapped read returns 0xFF with no state change, an unmapped write is ignored (R146, R147). -/
def Obligations.UnmappedAccessesFloatAndIgnore : Prop :=
  ∀ (s : State) (off : Port) (v : Byte) (t : Nat), Admitted s t →
    exec (.inUnmapped off t) s = .next ((s.enter t).returning (.byte 0xFF#8)) ∧
    exec (.outUnmapped off v t) s = .next (s.enter t)

/-- An unbound access takes no step of the block: in every state it completes, a read with the bus value 0xFF, and
nothing but the returned value changes (R148, R156; decided by the spec in D5, D42; log entry 14). -/
def Obligations.UnboundAccessTakesNoStep : Prop :=
  ∀ (s : State) (port : Port) (v : Byte) (t : Nat),
    exec (.unbound port none t) s = .next (s.returning (.byte 0xFF#8)) ∧
    exec (.unbound port (some v) t) s = .next (s.returning .nothing) ∧
    exec (.inBaseSelect t) s = .next (s.returning (.byte 0xFF#8))

/-- What is written to a plain register is read back from it, whatever side effect the write has, at any later admitted
time (D17, decided by the spec). -/
def Obligations.PlainRegistersReadBack : Prop :=
  ∀ p ∈ ([(.outMixer, .inMixer), (.outFilter, .inFilter), (.outIrqMask, .inIrqMask), (.outPcmCtrl, .inPcmCtrl),
      (.outScsi, .inScsi), (.outSysConf1, .inSysConf1), (.outSysConf2, .inSysConf2), (.outSysConf3, .inSysConf3),
      (.outSysConf4, .inSysConf4), (.outWait, .inWait), (.outIoConf1, .inIoConf1), (.outIoConf2, .inIoConf2),
      (.outIoConf3, .inIoConf3), (.outIoConf4, .inIoConf4), (.outCompat, .inCompat),
      (.outCompatBase, .inCompatBase), (.outSbIrqDma, .inSbIrqDma)] : List ((Byte → Nat → Instr) × (Nat → Instr))),
    ∀ (s s' : State) (v : Byte) (t t' : Nat), exec (p.1 v t) s = .next s' → t ≤ t' → t' ≤ s.bufLen →
      ∃ s'', exec (p.2 t') s' = .next s'' ∧ s''.env.reply = .byte v

/-! ## Tables, compatibility, forwarded bytes -/

/-- `IO_CONF_2` is read and written, and a write selects the DMA channel by bits 2:0 of the byte; bits 7:3 are stored and
select nothing (R36). -/
def Obligations.IoConf2SelectsChannelByLowBits : Prop :=
  ∀ (s : State) (v : Byte) (t : Nat), Admitted s t →
    (∃ ch, Config.params.dmaTable[v.toNat % 8]? = some ch ∧
      exec (.outIoConf2 v t) s = .next { s.enter t with ioConf2 := v, selDma := ch }) ∧
    exec (.inIoConf2 t) s = .next ((s.enter t).returning (.byte s.ioConf2))

/-- `IO_CONF_3` is read and written, and a write selects the IRQ line by bits 3:0 of the byte; bits 7:4 are stored and
select nothing (R37). -/
def Obligations.IoConf3SelectsLineByLowBits : Prop :=
  ∀ (s : State) (v : Byte) (t : Nat), Admitted s t →
    (∃ irq, Config.params.irqTable[v.toNat % 16]? = some irq ∧
      exec (.outIoConf3 v t) s = .next { s.enter t with ioConf3 := v, selIrq := irq }) ∧
    exec (.inIoConf3 t) s = .next ((s.enter t).returning (.byte s.ioConf3))

/-- The contents of the two tables, as the spec presumes them (R127, R128; D12, log entry 16). -/
def Obligations.SelectionsFollowTheTables : Prop :=
  (∀ v : Byte, (dmaChannel v).val = [4, 1, 2, 3, 0, 5, 6, 7].getD (v.toNat % 8) 0) ∧
  (∀ v : Byte, (irqLine v).val = [0, 2, 3, 4, 5, 6, 7, 10, 11, 12, 14, 15, 0, 0, 0, 0].getD (v.toNat % 16) 0)

/-- A write of either compatibility byte stores it and pushes both addresses, the DSP's first: 0x200 plus 16 times the
low nibble under bit 1 of `COMPAT`, 0x300 plus the high nibble under bit 0, 0 where not enabled (R130, R133, R135;
decided by the spec in D14). -/
def Obligations.CompatWritesPushBothAddresses : Prop :=
  ∀ (s : State) (v : Byte) (t : Nat), Admitted s t →
    let dsp (c b : Byte) : Port := if c.getLsbD 1 then BitVec.ofNat 16 (0x200 + 16 * (b.toNat % 16)) else 0#16
    let uart (c b : Byte) : Port := if c.getLsbD 0 then BitVec.ofNat 16 (0x300 + (b.toNat - b.toNat % 16)) else 0#16
    exec (.outCompat v t) s =
      .next ({ s.enter t with compat := v }.calls
        [.dspSetAddr (dsp v s.compatBase), .uartSetAddr (uart v s.compatBase)]) ∧
    exec (.outCompatBase v t) s =
      .next ({ s.enter t with compatBase := v }.calls
        [.dspSetAddr (dsp s.compat v), .uartSetAddr (uart s.compat v)])

/-- The legacy DSP assignment byte is stored and forwarded unchanged (R137; decided by the spec in D15). -/
def Obligations.SbIrqDmaByteIsForwarded : Prop :=
  ∀ (s : State) (v : Byte) (t : Nat), Admitted s t →
    exec (.outSbIrqDma v t) s = .next ({ s.enter t with sbIrqDma := v }.calls [.dspSetIrqDma v])

/-! ## Collaborator windows -/

/-- Synthesizer writes change no state of the block and reach the synthesizer with both values unchanged, in order
(R102). -/
def Obligations.SynthWritesReachSynthInOrder : Prop :=
  ∀ (s : State) (off off' : Port) (v v' : Byte) (t t' : Nat), Admitted s t → t ≤ t' → t' ≤ s.bufLen →
    exec (.outSynth off v t) s = .next ((s.enter t).calls [.synthWrite off v]) ∧
    execAll [.outSynth off v t, .outSynth off' v' t'] s =
      .next ((s.enter t').calls [.synthWrite off v, .synthWrite off' v'])

/-- A synthesizer read returns the byte the synthesizer answers for the canonical offset and changes nothing of the
block; a timer-window read returns the byte the timer answers for `off - 0x1388`, and has "whatever effect the
collaborator gives it": the four T1 fields are then whatever the timer set, the count in -1..65536, and nothing else of
the block changed (R56, R101, R113, R44; decided by the spec in D37, D40; the range after a read, log entry 5). An answer
is the oldest one ready, else a free value (log entry 4). -/
def Obligations.WindowReadsReturnTheAnswer : Prop :=
  ∀ (s : State) (off : Port) (t : Nat), Admitted s t →
    (∃ b u, exec (.inSynth off t) s =
        .next { s with env := { s.env with cursor := t, reply := .byte b, supply := u, drawn := s.env.drawn + 1,
                                           trace := s.env.trace ++ [.synthRead off] } } ∧
      (∀ a as, s.env.supply.synth = a :: as → b = a) ∧
      (s.env.supply.synth = [] → b = Config.synthByte s.env.drawn)) ∧
    (∃ b c u, exec (.inTimer off t) s =
        .next { s with
          t1 := c
          env := { s.env with cursor := t, reply := .byte b, supply := u, drawn := s.env.drawn + 2,
                              trace := s.env.trace ++ [.timerRead (off - 0x1388#16)] } } ∧
      -1 ≤ c.count ∧ c.count ≤ 65536 ∧
      (∀ a as, s.env.supply.settings = a :: as →
        c.en = a.en ∧ c.count = (a.countPlusOne.val : Int) - 1 ∧ c.period = a.period ∧ c.repeats = a.repeats) ∧
      (∀ a as, s.env.supply.timer = a :: as → b = a) ∧
      (s.env.supply.timer = [] → b = Config.timerByte s.env.drawn))

/-- A timer-window write reaches the timer with `off - 0x1388` and the byte unchanged; afterwards the four T1 fields are
whatever the timer set, the count in -1..65536, and nothing else of the block changed (R114, R44; 93 section 1). -/
def Obligations.TimerWriteSetsOnlyTheCountdown : Prop :=
  ∀ (s : State) (off : Port) (v : Byte) (t : Nat), Admitted s t →
    ∃ c u, exec (.outTimer off v t) s =
        .next { s with
          t1 := c
          env := { s.env with cursor := t, reply := .nothing, supply := u, drawn := s.env.drawn + 1,
                              trace := s.env.trace ++ [.timerWrite (off - 0x1388#16) v] } } ∧
      -1 ≤ c.count ∧ c.count ≤ 65536 ∧
      ∀ a as, s.env.supply.settings = a :: as →
        c.en = a.en ∧ c.count = (a.countPlusOne.val : Int) - 1 ∧ c.period = a.period ∧ c.repeats = a.repeats

/-! ## Filter, PCM registers, base select -/

/-- A `FILTER` write first flushes up to `t` under the old byte, also when the byte does not change, and then stores;
nothing else changes (R105). -/
def Obligations.FilterWriteFlushesUnderOldByte : Prop :=
  ∀ (s : State) (v : Byte) (t : Nat), Admitted s t →
    ∃ s', exec (.outFilter v t) s = .next s' ∧ Flushed s s' t ∧
      s' = { s.enter t with filter := v, pos := s'.pos, bufL := s'.bufL, bufR := s'.bufR }

/-- A write of a byte of `PCM_DATA` first flushes and then replaces that byte; nothing else changes (R107, R108; the
halves are decided by the spec in D18). -/
def Obligations.PcmDataWritesFlushThenStore : Prop :=
  ∀ (s : State) (v : Byte) (t : Nat), Admitted s t →
    (∃ s', exec (.outPcmDataLo v t) s = .next s' ∧ Flushed s s' t ∧
      s'.pcmData.toNat = s.pcmData.toNat / 256 * 256 + v.toNat ∧
      s' = { s.enter t with pcmData := s'.pcmData, pos := s'.pos, bufL := s'.bufL, bufR := s'.bufR }) ∧
    (∃ s', exec (.outPcmDataHi v t) s = .next s' ∧ Flushed s s' t ∧
      s'.pcmData.toNat = v.toNat * 256 + s.pcmData.toNat % 256 ∧
      s' = { s.enter t with pcmData := s'.pcmData, pos := s'.pos, bufL := s'.bufL, bufR := s'.bufR })

/-- A `PCM_CTRL` write stores the byte and resets the stereo toggle exactly when `PCM_ENA` goes from 0 to 1; no flush
(R109). -/
def Obligations.PcmCtrlWriteResetsToggleOnEdge : Prop :=
  ∀ (s : State) (v : Byte) (t : Nat), Admitted s t →
    exec (.outPcmCtrl v t) s =
      .next { s.enter t with
        pcmCtrl := v
        stereoR := if v &&& Config.params.pcmEna ≠ 0#8 ∧ s.pcmCtrl &&& Config.params.pcmEna = 0#8 then false
          else s.stereoR }

/-- `BASE` is the port of canonical offset 0x388; it is a multiple of 4 in [0x000, 0x3FC] after a base-select write,
which sets it to 4 times the byte and changes nothing else; no other instruction but CONSTRUCT, which makes a new block
(R270; on a live block the model's choice, log entry 13), changes it, and it stays such a multiple whatever runs (R21,
R151, R152; decided by the spec in D5, D6). -/
def Obligations.BaseChangesOnlyByBaseSelect : Prop :=
  (∀ base port : Port, canonicalOffset base port = 0x388#16 ↔ port = base) ∧
  (∀ (s : State) (v : Byte) (t : Nat), Admitted s t →
    exec (.outBaseSelect v t) s = .next { s.enter t with base := BitVec.ofNat 16 (4 * v.toNat) } ∧
    legalBase (BitVec.ofNat 16 (4 * v.toNat)) = true) ∧
  (∀ (s s' : State) (i : Instr), exec i s = .next s' → (∀ v t, i ≠ .outBaseSelect v t) → (∀ p, i ≠ .construct p) →
    s'.base = s.base) ∧
  (∀ (s s' : State) (i : Instr), exec i s = .next s' → legalBase s.base = true → legalBase s'.base = true)

/-! ## Interrupts -/

/-- A clear-mask write clears exactly the bits set in the byte, and does not drive the line (R165; the line corner is
decided by the spec in D21). -/
def Obligations.ClearMaskWriteClearsSetBits : Prop :=
  ∀ (s : State) (v : Byte) (t : Nat), Admitted s t →
    ∃ stat, exec (.outIrqStat v t) s = .next { s.enter t with irqStat := stat } ∧
      ∀ k, stat.getLsbD k = (s.irqStat.getLsbD k && !v.getLsbD k)

/-- `Produce(bit, cond)` sets the bit when the event is present, then asserts the line if its own status bit and its own
mask bit are set and deasserts it otherwise, by the mask of the selected line; nothing else changes (R163). -/
def Obligations.ProducerDrivesFromItsOwnBit : Prop :=
  ∀ (s : State) (bit : Byte) (cond : Bool), bit ∈ [Config.params.intSamp, Config.params.intPcm, Config.params.intMidi] →
    let stat := if cond then s.irqStat ||| bit else s.irqStat
    let level := decide (stat &&& bit ≠ 0#8 ∧ s.irqMask &&& bit ≠ 0#8)
    s.produce bit cond =
      { s with irqStat := stat, line := level }.calls
        [if level then .irqAssert (1#16 <<< s.selIrq.val) else .irqDeassert (1#16 <<< s.selIrq.val)]

/-- A status bit is cleared only by a guest write of a clear mask with that bit set, by a reset of the block (R20, R272,
R274, R275), and by CONSTRUCT, which makes a new block (on a live one the model's choice, log entry 13): no other
instruction, and no producer, clears one (R161). -/
def Obligations.StatusBitsClearedOnlyByClearMaskOrReset : Prop :=
  ∀ (s s' : State) (i : Instr) (k : Nat), exec i s = .next s' → s.irqStat.getLsbD k = true →
    s'.irqStat.getLsbD k = false →
    (∃ v t, i = .outIrqStat v t ∧ v.getLsbD k = true) ∨ (∃ t, i = .hostReset t) ∨
      (∃ v t, i = .outSysConf1 v t ∧ v.getLsbD 7 = true ∧ s.sysConf1.getLsbD 7 = false) ∨ ∃ p, i = .construct p

/-- Only ticks, MIDI data accesses, a MIDI soft reset, an incoming MIDI byte under passthrough and a reset of the block
drive the interrupt line: every other instruction but CONSTRUCT, which makes a new block (log entry 13), makes no line
call and leaves the level (R168, R169). -/
def Obligations.LineDrivenOnlyByProducersAndReset : Prop :=
  ∀ (s s' : State) (i : Instr), exec i s = .next s' →
    (∀ t, i ≠ .tick t) → (∀ v t, i ≠ .outMidiData v t) → (∀ v t, i ≠ .outMidiDataAlias v t) →
    (∀ t, i = .inMidiData t ∨ i = .inMidiDataAlias t → s.rcur = s.wcur) →
    (∀ v t, i = .outMidiCtrl v t → ¬(v.getLsbD 5 = true ∧ v.getLsbD 6 = true)) →
    (∀ b t, i = .midiIn b t → s.midiPassthrough = false) →
    (∀ t, i ≠ .hostReset t) → (∀ v t, i = .outSysConf1 v t → ¬(v.getLsbD 7 = true ∧ s.sysConf1.getLsbD 7 = false)) →
    (∀ p, i ≠ .construct p) →
    s'.line = s.line ∧ ∃ cs, s'.env.trace = s.env.trace ++ cs ∧ ∀ c ∈ cs, c.drivesLine = false

/-! ## MIDI -/

/-- A `MIDI_CTRL` write with bits 5 and 6 both set empties the FIFO, clears both ready sub-bits and runs the MIDI
producer with no event, storing and sending nothing; any other write only stores (R177, R178; decided by the spec in
D24, D29). -/
def Obligations.MidiCtrlWriteStoresOrSoftResets : Prop :=
  ∀ (s : State) (v : Byte) (t : Nat), Admitted s t →
    (v.getLsbD 5 = true ∧ v.getLsbD 6 = true →
      let level := decide (s.irqStat &&& 0x10#8 ≠ 0#8 ∧ s.irqMask &&& 0x10#8 ≠ 0#8)
      exec (.outMidiCtrl v t) s =
        .next ({ s.enter t with
          rcur := 0, wcur := 0, valid := Vector.replicate 16 false, txReady := false, rxReady := false,
          line := level }.calls [lineCall level s.selIrq])) ∧
    (¬(v.getLsbD 5 = true ∧ v.getLsbD 6 = true) → exec (.outMidiCtrl v t) s = .next { s.enter t with midiCtrl := v })

/-- A MIDI data write, at either port, sends the byte, sets `TX_READY` and `INT_MIDI`, and drives the line from the mask
bit (R180, R185; decided by the spec in D23, D24). -/
def Obligations.MidiDataWriteSends : Prop :=
  ∀ (s : State) (v : Byte) (t : Nat), Admitted s t →
    let level := decide (s.irqMask &&& 0x10#8 ≠ 0#8)
    let s' : State := { s.enter t with txReady := true, irqStat := s.irqStat ||| 0x10#8, line := level }.calls
      [.uartSend v, lineCall level s.selIrq]
    exec (.outMidiData v t) s = .next s' ∧ exec (.outMidiDataAlias v t) s = .next s'

/-- A MIDI data read, at either port, of a FIFO with data pops: it returns the byte at the read cursor, clears its flag,
advances the cursor, recomputes receive-ready and runs the producer; of an empty FIFO it returns the stale slot and
changes nothing (R183, R184; the empty read and the alias are decided by the spec in D23, D26). -/
def Obligations.MidiDataReadPopsOrReturnsStale : Prop :=
  ∀ (s : State) (t : Nat), Admitted s t → ∀ i ∈ ([.inMidiData t, .inMidiDataAlias t] : List Instr),
    (s.rcur ≠ s.wcur →
      let more := decide (s.rcur + 1 ≠ s.wcur)
      let stat := if s.txReady || more then s.irqStat ||| 0x10#8 else s.irqStat
      let level := decide (stat &&& 0x10#8 ≠ 0#8 ∧ s.irqMask &&& 0x10#8 ≠ 0#8)
      exec i s =
        .next (({ s.enter t with
          valid := s.valid.set s.rcur false, rcur := s.rcur + 1, rxReady := more, irqStat := stat,
          line := level }.calls [lineCall level s.selIrq]).returning (.byte s.fifo[s.rcur]))) ∧
    (s.rcur = s.wcur → exec i s = .next ((s.enter t).returning (.byte s.fifo[s.rcur])))

/-- An incoming MIDI byte under passthrough is written at the write cursor whatever the fill, its flag set, the cursor
advanced, receive-ready recomputed and the producer run; without passthrough it has no effect (R186, R187; decided by
the spec in D25, D28). -/
def Obligations.IncomingMidiByteIsPushed : Prop :=
  ∀ (s : State) (b : Byte) (t : Nat), Admitted s t →
    (s.midiPassthrough = true →
      let data := decide (s.rcur ≠ s.wcur + 1)
      let stat := if s.txReady || data then s.irqStat ||| 0x10#8 else s.irqStat
      let level := decide (stat &&& 0x10#8 ≠ 0#8 ∧ s.irqMask &&& 0x10#8 ≠ 0#8)
      exec (.midiIn b t) s =
        .next ({ s.enter t with
          fifo := s.fifo.set s.wcur b, valid := s.valid.set s.wcur true, wcur := s.wcur + 1, rxReady := data,
          irqStat := stat, line := level }.calls [lineCall level s.selIrq])) ∧
    (s.midiPassthrough = false → exec (.midiIn b t) s = .next (s.enter t))

/-- Any number of pushes, at any admitted times, moves the write cursor by that number modulo 16 and leaves the read
cursor; sixteen of them leave the two cursors as far apart as they were, so an empty FIFO then reads as empty (R187,
decided by the spec in D25; R189). -/
def Obligations.PushesWrapModulo16 : Prop :=
  ∀ (s : State) (pushes : List (Byte × Nat)), AdmittedRun s (pushes.map Prod.snd) → s.midiPassthrough = true →
    ∃ s', execAll (pushes.map fun p => .midiIn p.1 p.2) s = .next s' ∧ s'.rcur = s.rcur ∧
      s'.wcur.val = (s.wcur.val + pushes.length) % 16 ∧
      (pushes ≠ [] → s'.rxReady = decide (s'.rcur ≠ s'.wcur)) ∧
      (pushes.length = 16 → s.rcur = s.wcur → s'.rxReady = false)

/-- The receive FIFO is a queue of its unread bytes, from any state: with fewer than 15 unread a push appends its byte; a
read of a queue with data, at either port, returns the head and removes it; no other instruction but a soft reset, a
reset of the block and CONSTRUCT changes the queue. So where bytes and unread ones are at most 15 together, reads after
pushes, each at its own time, return them in the order of the queue (R42, R183, R184, R186; the alias is decided by the
spec in D23). -/
def Obligations.FifoReturnsBytesInOrder : Prop :=
  (∀ (s : State) (b : Byte) (t : Nat), Admitted s t → s.midiPassthrough = true → s.unread.length < 15 →
    ∃ s', exec (.midiIn b t) s = .next s' ∧ s'.unread = s.unread ++ [b]) ∧
  (∀ (s : State) (t : Nat) (b : Byte) (rest : List Byte), Admitted s t → s.unread = b :: rest →
    ∀ i ∈ ([.inMidiData t, .inMidiDataAlias t] : List Instr),
      ∃ s', exec i s = .next s' ∧ s'.env.reply = .byte b ∧ s'.unread = rest) ∧
  (∀ (s s' : State) (i : Instr), exec i s = .next s' →
    (∀ b t, i = .midiIn b t → s.midiPassthrough = false) → (∀ t, i ≠ .inMidiData t) → (∀ t, i ≠ .inMidiDataAlias t) →
    (∀ v t, i = .outMidiCtrl v t → ¬(v.getLsbD 5 = true ∧ v.getLsbD 6 = true)) → (∀ t, i ≠ .hostReset t) →
    (∀ v t, i = .outSysConf1 v t → ¬(v.getLsbD 7 = true ∧ s.sysConf1.getLsbD 7 = false)) → (∀ p, i ≠ .construct p) →
    s'.unread = s.unread) ∧
  (∀ (s : State) (pushes : List (Byte × Nat)) (reads : List Nat) (b : Byte),
    AdmittedRun s (pushes.map Prod.snd ++ reads) → s.midiPassthrough = true →
    s.unread.length + pushes.length ≤ 15 → reads ≠ [] →
    (s.unread ++ pushes.map Prod.fst)[reads.length - 1]? = some b →
    ∃ s', execAll ((pushes.map fun p => .midiIn p.1 p.2) ++ reads.map .inMidiData) s = .next s' ∧
      s'.env.reply = .byte b)

/-- Every unread slot has its flag set, and every step keeps it so (R42, R188). -/
def Obligations.UnreadSlotsStayValid : Prop :=
  ∀ s s' : State, UnreadSlotsValid s → step s = .next s' → UnreadSlotsValid s'

/-! ## The sampler -/

/-- A sample in 8-bit mode is the byte read less 128, times 256; in 16-bit mode the first byte read is the high one; the
MSB invert flips bit 15 of either; the reads, one or two, are of the selected channel (R203, R204, R205, R206). -/
def Obligations.SamplesAreAssembledFromDmaBytes : Prop :=
  ∀ s : State,
    let inverted (x : Sample) : Sample := if s.sysConf2 &&& Config.params.sc2MsbInv ≠ 0#8 then x ^^^ 0x8000#16 else x
    (s.sysConf2 &&& Config.params.sc2Wide = 0#8 →
      (∃ x : Sample, x.toInt = 256 * ((s.dmaRead.1.toNat : Int) - 128) ∧
        s.assemble = (inverted x, s.dmaRead.2)) ∧
      s.assemble.2.env.trace = s.env.trace ++ [.dmaRead s.selDma]) ∧
    (s.sysConf2 &&& Config.params.sc2Wide ≠ 0#8 →
      (∃ x : Sample, x.toNat = 256 * s.dmaRead.1.toNat + s.dmaRead.2.dmaRead.1.toNat ∧
        s.assemble = (inverted x, s.dmaRead.2.dmaRead.2)) ∧
      s.assemble.2.env.trace = s.env.trace ++ [.dmaRead s.selDma, .dmaRead s.selDma])

/-- A tick with T1 disabled only flushes, sets `INT_SAMP` and drives the line from its mask bit: no DMA read, no sample,
no countdown (R201, R202, R216; the flush is decided by the spec in D30). -/
def Obligations.TickWithCountdownStoppedOnlyFlushes : Prop :=
  ∀ (s : State) (t : Nat), Admitted s t → s.t1.en = false →
    let level := decide (s.irqMask &&& 0x04#8 ≠ 0#8)
    ∃ s', exec (.tick t) s = .next s' ∧ Flushed s s' t ∧
      s' = { s.enter t with pos := s'.pos, bufL := s'.bufL, bufR := s'.bufR, irqStat := s.irqStat ||| 0x04#8,
                            line := level }.calls [lineCall level s.selIrq]

/-- A tick with T1 enabled: after the flush and the sample-rate producer, a sample is assembled and routed if `PCM_ENA`
is set (both latches in mono; in stereo the latch the toggle names, and the toggle flips), then T1 counts down by 2 in
16-bit mode and 1 in 8-bit mode; on underflow it reloads or stops and the PCM producer runs last (R201, R202, R203,
R207, R208, R210-R213, R254; decided by the spec in D9, D30, D31, D32). -/
def Obligations.TickSamplesAndCountsDown : Prop :=
  ∀ (s : State) (t : Nat), Admitted s t → s.t1.en = true →
    let wide := s.sysConf2.getLsbD 2
    let samples := s.pcmCtrl.getLsbD 6
    let mono := s.pcmCtrl.getLsbD 5
    let x := s.assemble.1
    let reads := if samples then (if wide then 2 else 1) else 0
    let count := s.t1.count - (if wide then 2 else 1)
    let sampLevel := decide (s.irqMask &&& 0x04#8 ≠ 0#8)
    let pcmLevel := decide (s.irqMask &&& 0x08#8 ≠ 0#8)
    ∃ s', exec (.tick t) s = .next s' ∧ Flushed s s' t ∧
      s'.latchL = (if samples && (mono || !s.stereoR) then x else s.latchL) ∧
      s'.latchR = (if samples && (mono || s.stereoR) then x else s.latchR) ∧
      s'.stereoR = (if samples && !mono then !s.stereoR else s.stereoR) ∧
      (0 < count → s'.t1 = { s.t1 with count := count } ∧ s'.irqStat = s.irqStat ||| 0x04#8 ∧ s'.line = sampLevel ∧
        s'.env.trace = s.env.trace ++ [lineCall sampLevel s.selIrq] ++ List.replicate reads (.dmaRead s.selDma)) ∧
      (count ≤ 0 →
        s'.t1 = (if s.t1.repeats then
            { s.t1 with count := if s.t1.period = 0#16 then 65536 else (s.t1.period.toNat : Int) }
          else { s.t1 with count := -1, en := false }) ∧
        s'.irqStat = s.irqStat ||| 0x04#8 ||| 0x08#8 ∧ s'.line = pcmLevel ∧
        s'.env.trace = s.env.trace ++ [lineCall sampLevel s.selIrq] ++ List.replicate reads (.dmaRead s.selDma) ++
          [lineCall pcmLevel s.selIrq]) ∧
      s'.env.drawn = s.env.drawn + reads ∧
      s' = { s.enter t with
        pos := s'.pos, bufL := s'.bufL, bufR := s'.bufR, irqStat := s'.irqStat, line := s'.line,
        latchL := s'.latchL, latchR := s'.latchR, stereoR := s'.stereoR, t1 := s'.t1,
        env := { (s.enter t).env with trace := s'.env.trace, drawn := s'.env.drawn, supply := s'.env.supply } }

/-- The block-complete cadence: in repeat mode with the count at the period P (0 counting as 65536), ticks in order, each
at its own admitted time, leave the count at P less the decrement times their number k modulo ceil(P / decrement), and the
next tick underflows exactly when its number is a multiple of that (R214; D32, decided by the spec). -/
def Obligations.UnderflowCadenceIsCeilOfPeriod : Prop :=
  ∀ (s : State) (ticks : List Nat), AdmittedRun s ticks → s.t1.en = true → s.t1.repeats = true →
    let k := ticks.length
    let P : Nat := if s.t1.period = 0#16 then 65536 else s.t1.period.toNat
    let d : Nat := if s.sysConf2.getLsbD 2 then 2 else 1
    let c : Nat := (P + d - 1) / d
    s.t1.count = (P : Int) →
    ∃ s', execAll (ticks.map .tick) s = .next s' ∧
      s'.t1 = { s.t1 with count := (P : Int) - (d * (k % c) : Nat) } ∧
      (s'.t1.count - (d : Int) ≤ 0 ↔ (k + 1) % c = 0)

/-- After `PCM_ENA` goes from 0 to 1 in stereo, the first sample lands in the left latch, whatever the toggle was (R109,
R208, R209). -/
def Obligations.FirstStereoSampleLandsLeft : Prop :=
  ∀ (s : State) (v : Byte) (t u : Nat), Admitted s t → t ≤ u → u ≤ s.bufLen → s.t1.en = true →
    v.getLsbD 6 = true → v.getLsbD 5 = false → s.pcmCtrl.getLsbD 6 = false →
    ∃ s', execAll [.outPcmCtrl v t, .tick u] s = .next s' ∧
      s'.latchL = s.assemble.1 ∧ s'.latchR = s.latchR ∧ s'.stereoR = true

/-- The stereo toggle changes only by a sampling tick, by a 0-to-1 edge of `PCM_ENA`, and by CONSTRUCT, which makes a new
block (on a live one the model's choice, log entry 13) (R208, R209). -/
def Obligations.StereoToggleChangesOnlyBySampleOrEdge : Prop :=
  ∀ (s s' : State) (i : Instr), exec i s = .next s' → s'.stereoR ≠ s.stereoR →
    (∃ t, i = .tick t ∧ s.t1.en = true ∧ s.pcmCtrl.getLsbD 6 = true ∧ s.pcmCtrl.getLsbD 5 = false) ∨
    (∃ v t, i = .outPcmCtrl v t ∧ v.getLsbD 6 = true ∧ s.pcmCtrl.getLsbD 6 = false) ∨ ∃ p, i = .construct p

/-- `SEL_DMA` is written only by an `IO_CONF_2` write, `SEL_IRQ` only by an `IO_CONF_3` write, and both by DeviceReset and
by CONSTRUCT, which makes a new block (on a live one the model's choice, log entry 13); each stays the entry of its table
that its register selects (R22, R23, R36, R37, R270; decided by the spec in D13, D20). -/
def Obligations.ChannelChangesOnlyByIoConf2OrReset : Prop :=
  ∀ (s s' : State) (i : Instr), exec i s = .next s' →
    let reset := (∃ t, i = .hostReset t) ∨
      (∃ v t, i = .outSysConf1 v t ∧ v.getLsbD 7 = true ∧ s.sysConf1.getLsbD 7 = false) ∨ ∃ p, i = .construct p
    (s'.selDma ≠ s.selDma → (∃ v t, i = .outIoConf2 v t) ∨ reset) ∧
    (s'.selIrq ≠ s.selIrq → (∃ v t, i = .outIoConf3 v t) ∨ reset) ∧
    (s.selDma = dmaChannel s.ioConf2 →
      s'.selDma = dmaChannel s'.ioConf2 ∧ s'.selDma ∈ Config.params.dmaTable) ∧
    (s.selIrq = irqLine s.ioConf3 →
      s'.selIrq = irqLine s'.ioConf3 ∧ s'.selIrq ∈ Config.params.irqTable)

/-! ## The output stage -/

/-- Only the steps R232 names touch the sample buffer or its cursor: a `FILTER` write, a `PCM_DATA` byte write, a tick, a
reset, a PCM pull (and CONSTRUCT, which makes a new block; on a live one the model's choice, log entry 13); decided by
the spec in D20, D30. -/
def Obligations.OnlyFlushingStepsTouchTheBuffer : Prop :=
  ∀ (s s' : State) (i : Instr), exec i s = .next s' →
    (∀ v t, i ≠ .outFilter v t) → (∀ v t, i ≠ .outPcmDataLo v t) → (∀ v t, i ≠ .outPcmDataHi v t) →
    (∀ t, i ≠ .tick t) → (∀ t, i ≠ .hostReset t) →
    (∀ v t, i = .outSysConf1 v t → ¬(v.getLsbD 7 = true ∧ s.sysConf1.getLsbD 7 = false)) →
    (∀ n acc t, i ≠ .pullPcm n acc t) → (∀ p, i ≠ .construct p) →
    s'.pos = s.pos ∧ s'.bufL = s.bufL ∧ s'.bufR = s.bufR

/-- The main pull: after a flush to `n`, each of the `n` frames of the accumulator gains the DSP's frame and the
attenuated frame of the sample buffer; `POS` is 0, the DSP's cursor is reset, and nothing else changes but the host's
cursor, which starts a new period (R233; decided by the spec in D36; log entry 10; that a pull carries `t`, log entry
11). -/
def Obligations.PcmPullMixesFlushedFrames : Prop :=
  ∀ (s : State) (n : Nat) (acc : List Frame) (t : Nat), PullAdmitted s n t → acc.length = n →
    s.bufL.length = s.bufLen → s.bufR.length = s.bufLen →
    ∃ s' out, exec (.pullPcm n acc t) s = .next s' ∧ s'.env.reply = .frames out ∧ out.length = n ∧
      (s.dspMix n).1.length = n ∧
      (∀ k < n,
        (out.getD k ⟨0, 0⟩).l = (acc.getD k ⟨0, 0⟩).l + ((s.dspMix n).1.getD k ⟨0, 0⟩).l +
          Config.atten (s16 (s'.bufL.getD k 0#16)) ∧
        (out.getD k ⟨0, 0⟩).r = (acc.getD k ⟨0, 0⟩).r + ((s.dspMix n).1.getD k ⟨0, 0⟩).r +
          Config.atten (s16 (s'.bufR.getD k 0#16))) ∧
      Flushed s { s' with pos := max s.pos n } n ∧ s'.pos = 0 ∧
      s'.env.trace = s.env.trace ++ [.dspMix n, .dspBufReset] ∧ s'.env.drawn = s.env.drawn + n ∧
      s' = { s with
        pos := 0, bufL := s'.bufL, bufR := s'.bufR,
        env := { s.env with trace := s'.env.trace, drawn := s'.env.drawn, supply := s'.env.supply,
                            reply := .frames out, cursor := 0 } }

/-- The attenuation halves, rounding toward zero (R234; D36, presumed by the spec, log entry 16). -/
def Obligations.AttenuationHalvesTowardZero : Prop :=
  ∀ x : Int, (0 ≤ x → Config.atten x = x / 2) ∧ (x ≤ 0 → Config.atten x = -(-x / 2))

/-- The synthesizer pull: each frame of the accumulator gains the synthesizer's frame unchanged, the synthesizer's buffer
is reset, and no state of the block is touched (R235). The host's cursor goes on with the period, to the pull's `t` (the
model's reading, log entries 10 and 11). -/
def Obligations.SynthPullAddsFramesUnchanged : Prop :=
  ∀ (s : State) (n : Nat) (acc : List Frame) (t : Nat), PullAdmitted s n t → acc.length = n →
    ∃ out, exec (.pullSynth n acc t) s =
        .next { s with env := { s.env with
          trace := s.env.trace ++ [.synthPull n, .synthBufReset]
          supply := (s.synthPull n).2.env.supply
          drawn := s.env.drawn + n
          cursor := t
          reply := .frames out } } ∧
      out.length = n ∧ (s.synthPull n).1.length = n ∧
      ∀ k < n,
        (out.getD k ⟨0, 0⟩).l = (acc.getD k ⟨0, 0⟩).l + ((s.synthPull n).1.getD k ⟨0, 0⟩).l ∧
        (out.getD k ⟨0, 0⟩).r = (acc.getD k ⟨0, 0⟩).r + ((s.synthPull n).1.getD k ⟨0, 0⟩).r

/-! ## Construction, reset, close -/

/-- The part of DeviceReset the source fixes: `MIDI_STAT` 0xFF, both ready sub-bits 0, both cursors 0, every flag 0, the
`INT_MIDI` bit 0, and the line deasserted (R273). That HOST_RESET and the edge of `SYS_CONF_1` bit 7 are its two triggers
(R116, R274, R275) and that the deassert is by the mask in force before the reset, ahead of its other calls (R272), is
decided by the spec in D19 and D20. -/
def Obligations.ResetClearsMidiAndDeasserts : Prop :=
  ∀ (s : State) (i : Instr) (t : Nat), Admitted s t →
    (i = .hostReset t ∨ ∃ v, i = .outSysConf1 v t ∧ v.getLsbD 7 = true ∧ s.sysConf1.getLsbD 7 = false) →
    ∃ s' cs, exec i s = .next s' ∧ s'.midiStat = 0xFF#8 ∧ s'.txReady = false ∧ s'.rxReady = false ∧
      s'.rcur = 0 ∧ s'.wcur = 0 ∧ (∀ k : Fin 16, s'.valid[k.val] = false) ∧ s'.irqStat.getLsbD 4 = false ∧
      s'.line = false ∧ s'.env.trace = s.env.trace ++ .irqDeassert (1#16 <<< s.selIrq.val) :: cs ∧
      ∀ c ∈ cs, c.drivesLine = false

/-- HOST_RESET, and a `SYS_CONF_1` write whose bit 7 goes from 0 to 1, flush and then put every element at its
DeviceReset value, which is its value at construction but for the elements table 10.1 keeps; the second then stores its
byte. Any other `SYS_CONF_1` write only stores (R20 table 10.1, R116, R272, R274, R275; decided by the spec in D19, D20). -/
def Obligations.DeviceResetRestoresConstructionValues : Prop :=
  ∀ (s : State) (v : Byte) (t : Nat), Admitted s t →
    let kept (s' : State) : State :=
      { State.reset with
        base := s.base, stereoR := s.stereoR, fifo := s.fifo, midiPassthrough := s.midiPassthrough,
        bufLen := s.bufLen, t1 := s.t1, pos := s'.pos, bufL := s'.bufL, bufR := s'.bufR,
        env := { s.env with cursor := t, reply := .nothing, trace := s.env.trace ++
          [.irqDeassert (1#16 <<< s.selIrq.val), .dspSetAddr 0#16, .uartSetAddr 0#16, .dspSetIrqDma 0#8] } }
    (∃ s', exec (.hostReset t) s = .next s' ∧ Flushed s s' t ∧ s' = kept s') ∧
    (v.getLsbD 7 = true ∧ s.sysConf1.getLsbD 7 = false →
      ∃ s', exec (.outSysConf1 v t) s = .next s' ∧ Flushed s s' t ∧ s' = { kept s' with sysConf1 := v }) ∧
    (¬(v.getLsbD 7 = true ∧ s.sysConf1.getLsbD 7 = false) →
      exec (.outSysConf1 v t) s = .next { s.enter t with sysConf1 := v })

/-- CONSTRUCT gives a new block at its values of table 10.1 with the given passthrough, after the three calls of R270
and no interrupt call (decided by the spec in D20; that `BUFLEN`, the pending events and the answers stay, and T1's
values, are the model's choices, log entries 13 and 6). -/
def Obligations.ConstructMakesAFreshBlock : Prop :=
  ∀ (s : State) (p : Bool), s.closed = false →
    exec (.construct p) s =
      .next { State.reset with
        midiPassthrough := p, bufLen := s.bufLen
        bufL := List.replicate s.bufLen 0#16, bufR := List.replicate s.bufLen 0#16
        env := { s.env with cursor := 0, reply := .nothing
                            trace := [.dspSetAddr 0#16, .uartSetAddr 0#16, .dspSetIrqDma 0#8] } }

/-- CLOSE completes on a live block and releases it: every instruction that reaches the block is then refused (R271, R276;
that CONSTRUCT is among them is the model's reading, log entry 12). Its windows are unbound: an access of any port but a
write of the base-select port reaches no block, a read gives the bus value 0xFF, and nothing but the reply changes (R148,
R271; decided by the spec in D42). -/
def Obligations.NoStepFollowsClose : Prop :=
  ∀ (s : State) (t : Nat), Admitted s t →
    ∃ s', exec (.close t) s = .next s' ∧ s' = { s.enter t with closed := true } ∧
      (∀ i, reachesBlock i = true → exec i s' = .refused .afterClose) ∧
      (∀ port u, step (s'.offer (.ioRead port u)) = .next (s'.returning (.byte 0xFF#8))) ∧
      ∀ port v u, port ≠ 0x9a01#16 → step (s'.offer (.ioWrite port v u)) = .next (s'.returning .nothing)

/-! ## Reset values and the invariant -/

/-- The values of table 10.1's "Ctor" column hold in `State.reset` (R20, R270; decided by the spec in D6, D20, D26, D34,
D44). That the machine's reset state is the state right after CONSTRUCT(0) is the model's reading (log entry 9); the
passthrough and T1 values are the model's, log entries 6 and 8, and not stated here. -/
def Obligations.ResetHoldsTheConstructionValues : Prop :=
  let s := State.reset
  s.base = 0x388#16 ∧ s.selIrq = 0 ∧ s.selDma = 4 ∧
  [s.mixer, s.irqStat, s.filter, s.irqMask, s.pcmCtrl, s.scsi, s.sysConf1, s.sysConf2, s.sysConf3, s.sysConf4, s.wait,
    s.ioConf1, s.ioConf2, s.ioConf3, s.ioConf4, s.compat, s.compatBase, s.sbIrqDma, s.midiCtrl] =
    List.replicate 19 0x00#8 ∧
  s.pcmData = 0#16 ∧ s.midiStat = 0xFF#8 ∧ s.txReady = false ∧ s.rxReady = false ∧
  (∀ k : Fin 16, s.fifo[k.val] = 0x00#8 ∧ s.valid[k.val] = false) ∧ s.rcur = 0 ∧ s.wcur = 0 ∧
  s.latchL = 0#16 ∧ s.latchR = 0#16 ∧ s.stereoR = false ∧ s.pos = 0 ∧
  s.bufL = List.replicate s.bufLen 0#16 ∧ s.bufR = List.replicate s.bufLen 0#16 ∧ s.line = false

/-- The invariant holds at reset: `BASE` is legal, both selections follow their bytes, the reserved status bits are 0,
`RX_READY` is `RCUR != WCUR`, `MIDI_STAT` is 0xFF, `T1.COUNT` is in range, the buffers have `BUFLEN` frames, `POS` and the
host's cursor are at most `BUFLEN`, and `LINE` is the level of the last line call; every unread slot has its flag set
(R20-R23, R25, R40-R42, R44-R46, R49; T1's values and `BUFLEN` are the model's choices, log entries 6 and 7; the moment
of reset and the host's cursor are its readings, log entries 9 and 10). -/
def Obligations.InvariantHoldsAtReset : Prop := BlockInv State.reset ∧ UnreadSlotsValid State.reset

/-- Every step keeps the invariant, from every state in which it holds: `BASE` legal, both selections following their
bytes, the reserved status bits 0, `RX_READY` equal to `RCUR != WCUR`, `MIDI_STAT` 0xFF, `T1.COUNT` in range, `BUFLEN`
positive with that many frames in both buffers, `POS` and the host's cursor at most `BUFLEN`, and `LINE` the level of the
last line call (R21-R23, R25, R40, R41, R44-R46, R49, R189). The model's own: that `T1.COUNT` is in -1..65536 after a
timer-window read (log entry 5, an inference: R44 says "holds at least -1..65536", and 93 section 1 draws it from that
range after a write only) and after CONSTRUCT, which sets it to 0 (log entry 6); that CONSTRUCT keeps `BUFLEN` (log entry
13); and the host's cursor (log entry 10). -/
def Obligations.EveryStepKeepsTheInvariant : Prop :=
  ∀ s s' : State, BlockInv s → step s = .next s' → BlockInv s'
end

