-- ==== Sys2Proof/Laws/Config.lean ====
section
/-! SUPPORT. The values of the parameters, true by `rfl`, so that no later proof unfolds `Config.params`. -/

namespace Sys2Proof.Config

@[simp] theorem canonRef_eq : params.canonRef = 0x388#16 := rfl
@[simp] theorem baseSelectPort_eq : params.baseSelectPort = 0x9A01#16 := rfl
@[simp] theorem params_fifoDepth_eq : params.fifoDepth = 16 := rfl

/-- `FIFO_DEPTH` is 16: for `omega`, which sees the bound of a cursor as this constant. -/
@[simp] theorem fifoDepth_eq : fifoDepth = 16 := rfl

@[simp] theorem dmaEntry_zero : dmaEntry 0 = 4 := rfl
@[simp] theorem irqEntry_zero : irqEntry 0 = 0 := rfl

@[simp] theorem offsets_synth : params.offsets.synth = 0x388#16 := rfl
@[simp] theorem offsets_mixer : params.offsets.mixer = 0xb88#16 := rfl
@[simp] theorem offsets_irqStat : params.offsets.irqStat = 0xb89#16 := rfl
@[simp] theorem offsets_filter : params.offsets.filter = 0xb8a#16 := rfl
@[simp] theorem offsets_irqMask : params.offsets.irqMask = 0xb8b#16 := rfl
@[simp] theorem offsets_pcmDataLo : params.offsets.pcmDataLo = 0xf88#16 := rfl
@[simp] theorem offsets_pcmDataHi : params.offsets.pcmDataHi = 0xf89#16 := rfl
@[simp] theorem offsets_pcmCtrl : params.offsets.pcmCtrl = 0xf8a#16 := rfl
@[simp] theorem offsets_timer : params.offsets.timer = 0x1388#16 := rfl
@[simp] theorem offsets_midiCtrl : params.offsets.midiCtrl = 0x1789#16 := rfl
@[simp] theorem offsets_midiData : params.offsets.midiData = 0x178a#16 := rfl
@[simp] theorem offsets_midiDataAlias : params.offsets.midiDataAlias = 0x178b#16 := rfl
@[simp] theorem offsets_midiStat : params.offsets.midiStat = 0x1b88#16 := rfl
@[simp] theorem offsets_boardRev : params.offsets.boardRev = 0x2789#16 := rfl
@[simp] theorem offsets_scsi : params.offsets.scsi = 0x7f89#16 := rfl
@[simp] theorem offsets_sysConf1 : params.offsets.sysConf1 = 0x8388#16 := rfl
@[simp] theorem offsets_sysConf2 : params.offsets.sysConf2 = 0x8389#16 := rfl
@[simp] theorem offsets_sysConf3 : params.offsets.sysConf3 = 0x838a#16 := rfl
@[simp] theorem offsets_sysConf4 : params.offsets.sysConf4 = 0x838b#16 := rfl
@[simp] theorem offsets_wait : params.offsets.wait = 0xbf88#16 := rfl
@[simp] theorem offsets_ioConf1 : params.offsets.ioConf1 = 0xf388#16 := rfl
@[simp] theorem offsets_ioConf2 : params.offsets.ioConf2 = 0xf389#16 := rfl
@[simp] theorem offsets_ioConf3 : params.offsets.ioConf3 = 0xf38a#16 := rfl
@[simp] theorem offsets_ioConf4 : params.offsets.ioConf4 = 0xf38b#16 := rfl
@[simp] theorem offsets_compat : params.offsets.compat = 0xf788#16 := rfl
@[simp] theorem offsets_compatBase : params.offsets.compatBase = 0xf789#16 := rfl
@[simp] theorem offsets_sbIrqDma : params.offsets.sbIrqDma = 0xfb8a#16 := rfl
@[simp] theorem offsets_boardId : params.offsets.boardId = 0xff88#16 := rfl

end Sys2Proof.Config
end

