-- ==== Sys2Proof/Laws/State.lean ====
section
/-! SUPPORT. The small laws of the state: what each named update does to each field, true by `rfl`, so that no later
proof unfolds a record update. -/

namespace Sys2Proof.Machine

/-! ## `State.enter`: the beginning of an admitted step -/

@[simp] theorem enter_base (s : State) (t : Nat) : (s.enter t).base = s.base := rfl
@[simp] theorem enter_selIrq (s : State) (t : Nat) : (s.enter t).selIrq = s.selIrq := rfl
@[simp] theorem enter_selDma (s : State) (t : Nat) : (s.enter t).selDma = s.selDma := rfl
@[simp] theorem enter_mixer (s : State) (t : Nat) : (s.enter t).mixer = s.mixer := rfl
@[simp] theorem enter_irqStat (s : State) (t : Nat) : (s.enter t).irqStat = s.irqStat := rfl
@[simp] theorem enter_filter (s : State) (t : Nat) : (s.enter t).filter = s.filter := rfl
@[simp] theorem enter_irqMask (s : State) (t : Nat) : (s.enter t).irqMask = s.irqMask := rfl
@[simp] theorem enter_pcmData (s : State) (t : Nat) : (s.enter t).pcmData = s.pcmData := rfl
@[simp] theorem enter_pcmCtrl (s : State) (t : Nat) : (s.enter t).pcmCtrl = s.pcmCtrl := rfl
@[simp] theorem enter_scsi (s : State) (t : Nat) : (s.enter t).scsi = s.scsi := rfl
@[simp] theorem enter_sysConf1 (s : State) (t : Nat) : (s.enter t).sysConf1 = s.sysConf1 := rfl
@[simp] theorem enter_sysConf2 (s : State) (t : Nat) : (s.enter t).sysConf2 = s.sysConf2 := rfl
@[simp] theorem enter_sysConf3 (s : State) (t : Nat) : (s.enter t).sysConf3 = s.sysConf3 := rfl
@[simp] theorem enter_sysConf4 (s : State) (t : Nat) : (s.enter t).sysConf4 = s.sysConf4 := rfl
@[simp] theorem enter_wait (s : State) (t : Nat) : (s.enter t).wait = s.wait := rfl
@[simp] theorem enter_ioConf1 (s : State) (t : Nat) : (s.enter t).ioConf1 = s.ioConf1 := rfl
@[simp] theorem enter_ioConf2 (s : State) (t : Nat) : (s.enter t).ioConf2 = s.ioConf2 := rfl
@[simp] theorem enter_ioConf3 (s : State) (t : Nat) : (s.enter t).ioConf3 = s.ioConf3 := rfl
@[simp] theorem enter_ioConf4 (s : State) (t : Nat) : (s.enter t).ioConf4 = s.ioConf4 := rfl
@[simp] theorem enter_compat (s : State) (t : Nat) : (s.enter t).compat = s.compat := rfl
@[simp] theorem enter_compatBase (s : State) (t : Nat) : (s.enter t).compatBase = s.compatBase := rfl
@[simp] theorem enter_sbIrqDma (s : State) (t : Nat) : (s.enter t).sbIrqDma = s.sbIrqDma := rfl
@[simp] theorem enter_midiCtrl (s : State) (t : Nat) : (s.enter t).midiCtrl = s.midiCtrl := rfl
@[simp] theorem enter_midiStat (s : State) (t : Nat) : (s.enter t).midiStat = s.midiStat := rfl
@[simp] theorem enter_txReady (s : State) (t : Nat) : (s.enter t).txReady = s.txReady := rfl
@[simp] theorem enter_rxReady (s : State) (t : Nat) : (s.enter t).rxReady = s.rxReady := rfl
@[simp] theorem enter_fifo (s : State) (t : Nat) : (s.enter t).fifo = s.fifo := rfl
@[simp] theorem enter_valid (s : State) (t : Nat) : (s.enter t).valid = s.valid := rfl
@[simp] theorem enter_rcur (s : State) (t : Nat) : (s.enter t).rcur = s.rcur := rfl
@[simp] theorem enter_wcur (s : State) (t : Nat) : (s.enter t).wcur = s.wcur := rfl
@[simp] theorem enter_latchL (s : State) (t : Nat) : (s.enter t).latchL = s.latchL := rfl
@[simp] theorem enter_latchR (s : State) (t : Nat) : (s.enter t).latchR = s.latchR := rfl
@[simp] theorem enter_stereoR (s : State) (t : Nat) : (s.enter t).stereoR = s.stereoR := rfl
@[simp] theorem enter_t1 (s : State) (t : Nat) : (s.enter t).t1 = s.t1 := rfl
@[simp] theorem enter_pos (s : State) (t : Nat) : (s.enter t).pos = s.pos := rfl
@[simp] theorem enter_bufL (s : State) (t : Nat) : (s.enter t).bufL = s.bufL := rfl
@[simp] theorem enter_bufR (s : State) (t : Nat) : (s.enter t).bufR = s.bufR := rfl
@[simp] theorem enter_line (s : State) (t : Nat) : (s.enter t).line = s.line := rfl
@[simp] theorem enter_midiPassthrough (s : State) (t : Nat) : (s.enter t).midiPassthrough = s.midiPassthrough := rfl
@[simp] theorem enter_bufLen (s : State) (t : Nat) : (s.enter t).bufLen = s.bufLen := rfl
@[simp] theorem enter_closed (s : State) (t : Nat) : (s.enter t).closed = s.closed := rfl
@[simp] theorem enter_inputs (s : State) (t : Nat) : (s.enter t).env.inputs = s.env.inputs := rfl
@[simp] theorem enter_supply (s : State) (t : Nat) : (s.enter t).env.supply = s.env.supply := rfl
@[simp] theorem enter_drawn (s : State) (t : Nat) : (s.enter t).env.drawn = s.env.drawn := rfl
@[simp] theorem enter_trace (s : State) (t : Nat) : (s.enter t).env.trace = s.env.trace := rfl
@[simp] theorem enter_reply (s : State) (t : Nat) : (s.enter t).env.reply = .nothing := rfl
@[simp] theorem enter_cursor (s : State) (t : Nat) : (s.enter t).env.cursor = t := rfl

/-! ## `State.returning`: what the step returns -/

@[simp] theorem returning_base (s : State) (r : Reply) : (s.returning r).base = s.base := rfl
@[simp] theorem returning_selIrq (s : State) (r : Reply) : (s.returning r).selIrq = s.selIrq := rfl
@[simp] theorem returning_selDma (s : State) (r : Reply) : (s.returning r).selDma = s.selDma := rfl
@[simp] theorem returning_mixer (s : State) (r : Reply) : (s.returning r).mixer = s.mixer := rfl
@[simp] theorem returning_irqStat (s : State) (r : Reply) : (s.returning r).irqStat = s.irqStat := rfl
@[simp] theorem returning_filter (s : State) (r : Reply) : (s.returning r).filter = s.filter := rfl
@[simp] theorem returning_irqMask (s : State) (r : Reply) : (s.returning r).irqMask = s.irqMask := rfl
@[simp] theorem returning_pcmData (s : State) (r : Reply) : (s.returning r).pcmData = s.pcmData := rfl
@[simp] theorem returning_pcmCtrl (s : State) (r : Reply) : (s.returning r).pcmCtrl = s.pcmCtrl := rfl
@[simp] theorem returning_scsi (s : State) (r : Reply) : (s.returning r).scsi = s.scsi := rfl
@[simp] theorem returning_sysConf1 (s : State) (r : Reply) : (s.returning r).sysConf1 = s.sysConf1 := rfl
@[simp] theorem returning_sysConf2 (s : State) (r : Reply) : (s.returning r).sysConf2 = s.sysConf2 := rfl
@[simp] theorem returning_sysConf3 (s : State) (r : Reply) : (s.returning r).sysConf3 = s.sysConf3 := rfl
@[simp] theorem returning_sysConf4 (s : State) (r : Reply) : (s.returning r).sysConf4 = s.sysConf4 := rfl
@[simp] theorem returning_wait (s : State) (r : Reply) : (s.returning r).wait = s.wait := rfl
@[simp] theorem returning_ioConf1 (s : State) (r : Reply) : (s.returning r).ioConf1 = s.ioConf1 := rfl
@[simp] theorem returning_ioConf2 (s : State) (r : Reply) : (s.returning r).ioConf2 = s.ioConf2 := rfl
@[simp] theorem returning_ioConf3 (s : State) (r : Reply) : (s.returning r).ioConf3 = s.ioConf3 := rfl
@[simp] theorem returning_ioConf4 (s : State) (r : Reply) : (s.returning r).ioConf4 = s.ioConf4 := rfl
@[simp] theorem returning_compat (s : State) (r : Reply) : (s.returning r).compat = s.compat := rfl
@[simp] theorem returning_compatBase (s : State) (r : Reply) : (s.returning r).compatBase = s.compatBase := rfl
@[simp] theorem returning_sbIrqDma (s : State) (r : Reply) : (s.returning r).sbIrqDma = s.sbIrqDma := rfl
@[simp] theorem returning_midiCtrl (s : State) (r : Reply) : (s.returning r).midiCtrl = s.midiCtrl := rfl
@[simp] theorem returning_midiStat (s : State) (r : Reply) : (s.returning r).midiStat = s.midiStat := rfl
@[simp] theorem returning_txReady (s : State) (r : Reply) : (s.returning r).txReady = s.txReady := rfl
@[simp] theorem returning_rxReady (s : State) (r : Reply) : (s.returning r).rxReady = s.rxReady := rfl
@[simp] theorem returning_fifo (s : State) (r : Reply) : (s.returning r).fifo = s.fifo := rfl
@[simp] theorem returning_valid (s : State) (r : Reply) : (s.returning r).valid = s.valid := rfl
@[simp] theorem returning_rcur (s : State) (r : Reply) : (s.returning r).rcur = s.rcur := rfl
@[simp] theorem returning_wcur (s : State) (r : Reply) : (s.returning r).wcur = s.wcur := rfl
@[simp] theorem returning_latchL (s : State) (r : Reply) : (s.returning r).latchL = s.latchL := rfl
@[simp] theorem returning_latchR (s : State) (r : Reply) : (s.returning r).latchR = s.latchR := rfl
@[simp] theorem returning_stereoR (s : State) (r : Reply) : (s.returning r).stereoR = s.stereoR := rfl
@[simp] theorem returning_t1 (s : State) (r : Reply) : (s.returning r).t1 = s.t1 := rfl
@[simp] theorem returning_pos (s : State) (r : Reply) : (s.returning r).pos = s.pos := rfl
@[simp] theorem returning_bufL (s : State) (r : Reply) : (s.returning r).bufL = s.bufL := rfl
@[simp] theorem returning_bufR (s : State) (r : Reply) : (s.returning r).bufR = s.bufR := rfl
@[simp] theorem returning_line (s : State) (r : Reply) : (s.returning r).line = s.line := rfl
@[simp] theorem returning_midiPassthrough (s : State) (r : Reply) : (s.returning r).midiPassthrough = s.midiPassthrough := rfl
@[simp] theorem returning_bufLen (s : State) (r : Reply) : (s.returning r).bufLen = s.bufLen := rfl
@[simp] theorem returning_closed (s : State) (r : Reply) : (s.returning r).closed = s.closed := rfl
@[simp] theorem returning_inputs (s : State) (r : Reply) : (s.returning r).env.inputs = s.env.inputs := rfl
@[simp] theorem returning_supply (s : State) (r : Reply) : (s.returning r).env.supply = s.env.supply := rfl
@[simp] theorem returning_drawn (s : State) (r : Reply) : (s.returning r).env.drawn = s.env.drawn := rfl
@[simp] theorem returning_trace (s : State) (r : Reply) : (s.returning r).env.trace = s.env.trace := rfl
@[simp] theorem returning_reply (s : State) (r : Reply) : (s.returning r).env.reply = r := rfl
@[simp] theorem returning_cursor (s : State) (r : Reply) : (s.returning r).env.cursor = s.env.cursor := rfl

/-! ## `State.call`: a call to a collaborator -/

@[simp] theorem call_base (s : State) (c : Call) : (s.call c).base = s.base := rfl
@[simp] theorem call_selIrq (s : State) (c : Call) : (s.call c).selIrq = s.selIrq := rfl
@[simp] theorem call_selDma (s : State) (c : Call) : (s.call c).selDma = s.selDma := rfl
@[simp] theorem call_mixer (s : State) (c : Call) : (s.call c).mixer = s.mixer := rfl
@[simp] theorem call_irqStat (s : State) (c : Call) : (s.call c).irqStat = s.irqStat := rfl
@[simp] theorem call_filter (s : State) (c : Call) : (s.call c).filter = s.filter := rfl
@[simp] theorem call_irqMask (s : State) (c : Call) : (s.call c).irqMask = s.irqMask := rfl
@[simp] theorem call_pcmData (s : State) (c : Call) : (s.call c).pcmData = s.pcmData := rfl
@[simp] theorem call_pcmCtrl (s : State) (c : Call) : (s.call c).pcmCtrl = s.pcmCtrl := rfl
@[simp] theorem call_scsi (s : State) (c : Call) : (s.call c).scsi = s.scsi := rfl
@[simp] theorem call_sysConf1 (s : State) (c : Call) : (s.call c).sysConf1 = s.sysConf1 := rfl
@[simp] theorem call_sysConf2 (s : State) (c : Call) : (s.call c).sysConf2 = s.sysConf2 := rfl
@[simp] theorem call_sysConf3 (s : State) (c : Call) : (s.call c).sysConf3 = s.sysConf3 := rfl
@[simp] theorem call_sysConf4 (s : State) (c : Call) : (s.call c).sysConf4 = s.sysConf4 := rfl
@[simp] theorem call_wait (s : State) (c : Call) : (s.call c).wait = s.wait := rfl
@[simp] theorem call_ioConf1 (s : State) (c : Call) : (s.call c).ioConf1 = s.ioConf1 := rfl
@[simp] theorem call_ioConf2 (s : State) (c : Call) : (s.call c).ioConf2 = s.ioConf2 := rfl
@[simp] theorem call_ioConf3 (s : State) (c : Call) : (s.call c).ioConf3 = s.ioConf3 := rfl
@[simp] theorem call_ioConf4 (s : State) (c : Call) : (s.call c).ioConf4 = s.ioConf4 := rfl
@[simp] theorem call_compat (s : State) (c : Call) : (s.call c).compat = s.compat := rfl
@[simp] theorem call_compatBase (s : State) (c : Call) : (s.call c).compatBase = s.compatBase := rfl
@[simp] theorem call_sbIrqDma (s : State) (c : Call) : (s.call c).sbIrqDma = s.sbIrqDma := rfl
@[simp] theorem call_midiCtrl (s : State) (c : Call) : (s.call c).midiCtrl = s.midiCtrl := rfl
@[simp] theorem call_midiStat (s : State) (c : Call) : (s.call c).midiStat = s.midiStat := rfl
@[simp] theorem call_txReady (s : State) (c : Call) : (s.call c).txReady = s.txReady := rfl
@[simp] theorem call_rxReady (s : State) (c : Call) : (s.call c).rxReady = s.rxReady := rfl
@[simp] theorem call_fifo (s : State) (c : Call) : (s.call c).fifo = s.fifo := rfl
@[simp] theorem call_valid (s : State) (c : Call) : (s.call c).valid = s.valid := rfl
@[simp] theorem call_rcur (s : State) (c : Call) : (s.call c).rcur = s.rcur := rfl
@[simp] theorem call_wcur (s : State) (c : Call) : (s.call c).wcur = s.wcur := rfl
@[simp] theorem call_latchL (s : State) (c : Call) : (s.call c).latchL = s.latchL := rfl
@[simp] theorem call_latchR (s : State) (c : Call) : (s.call c).latchR = s.latchR := rfl
@[simp] theorem call_stereoR (s : State) (c : Call) : (s.call c).stereoR = s.stereoR := rfl
@[simp] theorem call_t1 (s : State) (c : Call) : (s.call c).t1 = s.t1 := rfl
@[simp] theorem call_pos (s : State) (c : Call) : (s.call c).pos = s.pos := rfl
@[simp] theorem call_bufL (s : State) (c : Call) : (s.call c).bufL = s.bufL := rfl
@[simp] theorem call_bufR (s : State) (c : Call) : (s.call c).bufR = s.bufR := rfl
@[simp] theorem call_line (s : State) (c : Call) : (s.call c).line = s.line := rfl
@[simp] theorem call_midiPassthrough (s : State) (c : Call) : (s.call c).midiPassthrough = s.midiPassthrough := rfl
@[simp] theorem call_bufLen (s : State) (c : Call) : (s.call c).bufLen = s.bufLen := rfl
@[simp] theorem call_closed (s : State) (c : Call) : (s.call c).closed = s.closed := rfl
@[simp] theorem call_inputs (s : State) (c : Call) : (s.call c).env.inputs = s.env.inputs := rfl
@[simp] theorem call_supply (s : State) (c : Call) : (s.call c).env.supply = s.env.supply := rfl
@[simp] theorem call_drawn (s : State) (c : Call) : (s.call c).env.drawn = s.env.drawn := rfl
@[simp] theorem call_trace (s : State) (c : Call) : (s.call c).env.trace = s.env.trace ++ [c] := rfl
@[simp] theorem call_reply (s : State) (c : Call) : (s.call c).env.reply = s.env.reply := rfl
@[simp] theorem call_cursor (s : State) (c : Call) : (s.call c).env.cursor = s.env.cursor := rfl

/-! ## `State.drew`: a draw -/

@[simp] theorem drew_base (s : State) (u : Supply) : (s.drew u).base = s.base := rfl
@[simp] theorem drew_selIrq (s : State) (u : Supply) : (s.drew u).selIrq = s.selIrq := rfl
@[simp] theorem drew_selDma (s : State) (u : Supply) : (s.drew u).selDma = s.selDma := rfl
@[simp] theorem drew_mixer (s : State) (u : Supply) : (s.drew u).mixer = s.mixer := rfl
@[simp] theorem drew_irqStat (s : State) (u : Supply) : (s.drew u).irqStat = s.irqStat := rfl
@[simp] theorem drew_filter (s : State) (u : Supply) : (s.drew u).filter = s.filter := rfl
@[simp] theorem drew_irqMask (s : State) (u : Supply) : (s.drew u).irqMask = s.irqMask := rfl
@[simp] theorem drew_pcmData (s : State) (u : Supply) : (s.drew u).pcmData = s.pcmData := rfl
@[simp] theorem drew_pcmCtrl (s : State) (u : Supply) : (s.drew u).pcmCtrl = s.pcmCtrl := rfl
@[simp] theorem drew_scsi (s : State) (u : Supply) : (s.drew u).scsi = s.scsi := rfl
@[simp] theorem drew_sysConf1 (s : State) (u : Supply) : (s.drew u).sysConf1 = s.sysConf1 := rfl
@[simp] theorem drew_sysConf2 (s : State) (u : Supply) : (s.drew u).sysConf2 = s.sysConf2 := rfl
@[simp] theorem drew_sysConf3 (s : State) (u : Supply) : (s.drew u).sysConf3 = s.sysConf3 := rfl
@[simp] theorem drew_sysConf4 (s : State) (u : Supply) : (s.drew u).sysConf4 = s.sysConf4 := rfl
@[simp] theorem drew_wait (s : State) (u : Supply) : (s.drew u).wait = s.wait := rfl
@[simp] theorem drew_ioConf1 (s : State) (u : Supply) : (s.drew u).ioConf1 = s.ioConf1 := rfl
@[simp] theorem drew_ioConf2 (s : State) (u : Supply) : (s.drew u).ioConf2 = s.ioConf2 := rfl
@[simp] theorem drew_ioConf3 (s : State) (u : Supply) : (s.drew u).ioConf3 = s.ioConf3 := rfl
@[simp] theorem drew_ioConf4 (s : State) (u : Supply) : (s.drew u).ioConf4 = s.ioConf4 := rfl
@[simp] theorem drew_compat (s : State) (u : Supply) : (s.drew u).compat = s.compat := rfl
@[simp] theorem drew_compatBase (s : State) (u : Supply) : (s.drew u).compatBase = s.compatBase := rfl
@[simp] theorem drew_sbIrqDma (s : State) (u : Supply) : (s.drew u).sbIrqDma = s.sbIrqDma := rfl
@[simp] theorem drew_midiCtrl (s : State) (u : Supply) : (s.drew u).midiCtrl = s.midiCtrl := rfl
@[simp] theorem drew_midiStat (s : State) (u : Supply) : (s.drew u).midiStat = s.midiStat := rfl
@[simp] theorem drew_txReady (s : State) (u : Supply) : (s.drew u).txReady = s.txReady := rfl
@[simp] theorem drew_rxReady (s : State) (u : Supply) : (s.drew u).rxReady = s.rxReady := rfl
@[simp] theorem drew_fifo (s : State) (u : Supply) : (s.drew u).fifo = s.fifo := rfl
@[simp] theorem drew_valid (s : State) (u : Supply) : (s.drew u).valid = s.valid := rfl
@[simp] theorem drew_rcur (s : State) (u : Supply) : (s.drew u).rcur = s.rcur := rfl
@[simp] theorem drew_wcur (s : State) (u : Supply) : (s.drew u).wcur = s.wcur := rfl
@[simp] theorem drew_latchL (s : State) (u : Supply) : (s.drew u).latchL = s.latchL := rfl
@[simp] theorem drew_latchR (s : State) (u : Supply) : (s.drew u).latchR = s.latchR := rfl
@[simp] theorem drew_stereoR (s : State) (u : Supply) : (s.drew u).stereoR = s.stereoR := rfl
@[simp] theorem drew_t1 (s : State) (u : Supply) : (s.drew u).t1 = s.t1 := rfl
@[simp] theorem drew_pos (s : State) (u : Supply) : (s.drew u).pos = s.pos := rfl
@[simp] theorem drew_bufL (s : State) (u : Supply) : (s.drew u).bufL = s.bufL := rfl
@[simp] theorem drew_bufR (s : State) (u : Supply) : (s.drew u).bufR = s.bufR := rfl
@[simp] theorem drew_line (s : State) (u : Supply) : (s.drew u).line = s.line := rfl
@[simp] theorem drew_midiPassthrough (s : State) (u : Supply) : (s.drew u).midiPassthrough = s.midiPassthrough := rfl
@[simp] theorem drew_bufLen (s : State) (u : Supply) : (s.drew u).bufLen = s.bufLen := rfl
@[simp] theorem drew_closed (s : State) (u : Supply) : (s.drew u).closed = s.closed := rfl
@[simp] theorem drew_inputs (s : State) (u : Supply) : (s.drew u).env.inputs = s.env.inputs := rfl
@[simp] theorem drew_supply (s : State) (u : Supply) : (s.drew u).env.supply = u := rfl
@[simp] theorem drew_drawn (s : State) (u : Supply) : (s.drew u).env.drawn = s.env.drawn + 1 := rfl
@[simp] theorem drew_trace (s : State) (u : Supply) : (s.drew u).env.trace = s.env.trace := rfl
@[simp] theorem drew_reply (s : State) (u : Supply) : (s.drew u).env.reply = s.env.reply := rfl
@[simp] theorem drew_cursor (s : State) (u : Supply) : (s.drew u).env.cursor = s.env.cursor := rfl

/-! ## `State.drive`: a level on the interrupt line -/

@[simp] theorem drive_base (s : State) (level : Bool) : (s.drive level).base = s.base := rfl
@[simp] theorem drive_selIrq (s : State) (level : Bool) : (s.drive level).selIrq = s.selIrq := rfl
@[simp] theorem drive_selDma (s : State) (level : Bool) : (s.drive level).selDma = s.selDma := rfl
@[simp] theorem drive_mixer (s : State) (level : Bool) : (s.drive level).mixer = s.mixer := rfl
@[simp] theorem drive_irqStat (s : State) (level : Bool) : (s.drive level).irqStat = s.irqStat := rfl
@[simp] theorem drive_filter (s : State) (level : Bool) : (s.drive level).filter = s.filter := rfl
@[simp] theorem drive_irqMask (s : State) (level : Bool) : (s.drive level).irqMask = s.irqMask := rfl
@[simp] theorem drive_pcmData (s : State) (level : Bool) : (s.drive level).pcmData = s.pcmData := rfl
@[simp] theorem drive_pcmCtrl (s : State) (level : Bool) : (s.drive level).pcmCtrl = s.pcmCtrl := rfl
@[simp] theorem drive_scsi (s : State) (level : Bool) : (s.drive level).scsi = s.scsi := rfl
@[simp] theorem drive_sysConf1 (s : State) (level : Bool) : (s.drive level).sysConf1 = s.sysConf1 := rfl
@[simp] theorem drive_sysConf2 (s : State) (level : Bool) : (s.drive level).sysConf2 = s.sysConf2 := rfl
@[simp] theorem drive_sysConf3 (s : State) (level : Bool) : (s.drive level).sysConf3 = s.sysConf3 := rfl
@[simp] theorem drive_sysConf4 (s : State) (level : Bool) : (s.drive level).sysConf4 = s.sysConf4 := rfl
@[simp] theorem drive_wait (s : State) (level : Bool) : (s.drive level).wait = s.wait := rfl
@[simp] theorem drive_ioConf1 (s : State) (level : Bool) : (s.drive level).ioConf1 = s.ioConf1 := rfl
@[simp] theorem drive_ioConf2 (s : State) (level : Bool) : (s.drive level).ioConf2 = s.ioConf2 := rfl
@[simp] theorem drive_ioConf3 (s : State) (level : Bool) : (s.drive level).ioConf3 = s.ioConf3 := rfl
@[simp] theorem drive_ioConf4 (s : State) (level : Bool) : (s.drive level).ioConf4 = s.ioConf4 := rfl
@[simp] theorem drive_compat (s : State) (level : Bool) : (s.drive level).compat = s.compat := rfl
@[simp] theorem drive_compatBase (s : State) (level : Bool) : (s.drive level).compatBase = s.compatBase := rfl
@[simp] theorem drive_sbIrqDma (s : State) (level : Bool) : (s.drive level).sbIrqDma = s.sbIrqDma := rfl
@[simp] theorem drive_midiCtrl (s : State) (level : Bool) : (s.drive level).midiCtrl = s.midiCtrl := rfl
@[simp] theorem drive_midiStat (s : State) (level : Bool) : (s.drive level).midiStat = s.midiStat := rfl
@[simp] theorem drive_txReady (s : State) (level : Bool) : (s.drive level).txReady = s.txReady := rfl
@[simp] theorem drive_rxReady (s : State) (level : Bool) : (s.drive level).rxReady = s.rxReady := rfl
@[simp] theorem drive_fifo (s : State) (level : Bool) : (s.drive level).fifo = s.fifo := rfl
@[simp] theorem drive_valid (s : State) (level : Bool) : (s.drive level).valid = s.valid := rfl
@[simp] theorem drive_rcur (s : State) (level : Bool) : (s.drive level).rcur = s.rcur := rfl
@[simp] theorem drive_wcur (s : State) (level : Bool) : (s.drive level).wcur = s.wcur := rfl
@[simp] theorem drive_latchL (s : State) (level : Bool) : (s.drive level).latchL = s.latchL := rfl
@[simp] theorem drive_latchR (s : State) (level : Bool) : (s.drive level).latchR = s.latchR := rfl
@[simp] theorem drive_stereoR (s : State) (level : Bool) : (s.drive level).stereoR = s.stereoR := rfl
@[simp] theorem drive_t1 (s : State) (level : Bool) : (s.drive level).t1 = s.t1 := rfl
@[simp] theorem drive_pos (s : State) (level : Bool) : (s.drive level).pos = s.pos := rfl
@[simp] theorem drive_bufL (s : State) (level : Bool) : (s.drive level).bufL = s.bufL := rfl
@[simp] theorem drive_bufR (s : State) (level : Bool) : (s.drive level).bufR = s.bufR := rfl
@[simp] theorem drive_line (s : State) (level : Bool) : (s.drive level).line = level := rfl
@[simp] theorem drive_midiPassthrough (s : State) (level : Bool) : (s.drive level).midiPassthrough = s.midiPassthrough := rfl
@[simp] theorem drive_bufLen (s : State) (level : Bool) : (s.drive level).bufLen = s.bufLen := rfl
@[simp] theorem drive_closed (s : State) (level : Bool) : (s.drive level).closed = s.closed := rfl
@[simp] theorem drive_inputs (s : State) (level : Bool) : (s.drive level).env.inputs = s.env.inputs := rfl
@[simp] theorem drive_supply (s : State) (level : Bool) : (s.drive level).env.supply = s.env.supply := rfl
@[simp] theorem drive_drawn (s : State) (level : Bool) : (s.drive level).env.drawn = s.env.drawn := rfl
@[simp] theorem drive_trace (s : State) (level : Bool) : (s.drive level).env.trace = s.env.trace ++ [if level then .irqAssert (lineMask s.selIrq) else .irqDeassert (lineMask s.selIrq)] := rfl
@[simp] theorem drive_reply (s : State) (level : Bool) : (s.drive level).env.reply = s.env.reply := rfl
@[simp] theorem drive_cursor (s : State) (level : Bool) : (s.drive level).env.cursor = s.env.cursor := rfl

/-! ## `State.offer`: a pending event -/

@[simp] theorem offer_base (s : State) (e : HostEvent) : (s.offer e).base = s.base := rfl
@[simp] theorem offer_selIrq (s : State) (e : HostEvent) : (s.offer e).selIrq = s.selIrq := rfl
@[simp] theorem offer_selDma (s : State) (e : HostEvent) : (s.offer e).selDma = s.selDma := rfl
@[simp] theorem offer_mixer (s : State) (e : HostEvent) : (s.offer e).mixer = s.mixer := rfl
@[simp] theorem offer_irqStat (s : State) (e : HostEvent) : (s.offer e).irqStat = s.irqStat := rfl
@[simp] theorem offer_filter (s : State) (e : HostEvent) : (s.offer e).filter = s.filter := rfl
@[simp] theorem offer_irqMask (s : State) (e : HostEvent) : (s.offer e).irqMask = s.irqMask := rfl
@[simp] theorem offer_pcmData (s : State) (e : HostEvent) : (s.offer e).pcmData = s.pcmData := rfl
@[simp] theorem offer_pcmCtrl (s : State) (e : HostEvent) : (s.offer e).pcmCtrl = s.pcmCtrl := rfl
@[simp] theorem offer_scsi (s : State) (e : HostEvent) : (s.offer e).scsi = s.scsi := rfl
@[simp] theorem offer_sysConf1 (s : State) (e : HostEvent) : (s.offer e).sysConf1 = s.sysConf1 := rfl
@[simp] theorem offer_sysConf2 (s : State) (e : HostEvent) : (s.offer e).sysConf2 = s.sysConf2 := rfl
@[simp] theorem offer_sysConf3 (s : State) (e : HostEvent) : (s.offer e).sysConf3 = s.sysConf3 := rfl
@[simp] theorem offer_sysConf4 (s : State) (e : HostEvent) : (s.offer e).sysConf4 = s.sysConf4 := rfl
@[simp] theorem offer_wait (s : State) (e : HostEvent) : (s.offer e).wait = s.wait := rfl
@[simp] theorem offer_ioConf1 (s : State) (e : HostEvent) : (s.offer e).ioConf1 = s.ioConf1 := rfl
@[simp] theorem offer_ioConf2 (s : State) (e : HostEvent) : (s.offer e).ioConf2 = s.ioConf2 := rfl
@[simp] theorem offer_ioConf3 (s : State) (e : HostEvent) : (s.offer e).ioConf3 = s.ioConf3 := rfl
@[simp] theorem offer_ioConf4 (s : State) (e : HostEvent) : (s.offer e).ioConf4 = s.ioConf4 := rfl
@[simp] theorem offer_compat (s : State) (e : HostEvent) : (s.offer e).compat = s.compat := rfl
@[simp] theorem offer_compatBase (s : State) (e : HostEvent) : (s.offer e).compatBase = s.compatBase := rfl
@[simp] theorem offer_sbIrqDma (s : State) (e : HostEvent) : (s.offer e).sbIrqDma = s.sbIrqDma := rfl
@[simp] theorem offer_midiCtrl (s : State) (e : HostEvent) : (s.offer e).midiCtrl = s.midiCtrl := rfl
@[simp] theorem offer_midiStat (s : State) (e : HostEvent) : (s.offer e).midiStat = s.midiStat := rfl
@[simp] theorem offer_txReady (s : State) (e : HostEvent) : (s.offer e).txReady = s.txReady := rfl
@[simp] theorem offer_rxReady (s : State) (e : HostEvent) : (s.offer e).rxReady = s.rxReady := rfl
@[simp] theorem offer_fifo (s : State) (e : HostEvent) : (s.offer e).fifo = s.fifo := rfl
@[simp] theorem offer_valid (s : State) (e : HostEvent) : (s.offer e).valid = s.valid := rfl
@[simp] theorem offer_rcur (s : State) (e : HostEvent) : (s.offer e).rcur = s.rcur := rfl
@[simp] theorem offer_wcur (s : State) (e : HostEvent) : (s.offer e).wcur = s.wcur := rfl
@[simp] theorem offer_latchL (s : State) (e : HostEvent) : (s.offer e).latchL = s.latchL := rfl
@[simp] theorem offer_latchR (s : State) (e : HostEvent) : (s.offer e).latchR = s.latchR := rfl
@[simp] theorem offer_stereoR (s : State) (e : HostEvent) : (s.offer e).stereoR = s.stereoR := rfl
@[simp] theorem offer_t1 (s : State) (e : HostEvent) : (s.offer e).t1 = s.t1 := rfl
@[simp] theorem offer_pos (s : State) (e : HostEvent) : (s.offer e).pos = s.pos := rfl
@[simp] theorem offer_bufL (s : State) (e : HostEvent) : (s.offer e).bufL = s.bufL := rfl
@[simp] theorem offer_bufR (s : State) (e : HostEvent) : (s.offer e).bufR = s.bufR := rfl
@[simp] theorem offer_line (s : State) (e : HostEvent) : (s.offer e).line = s.line := rfl
@[simp] theorem offer_midiPassthrough (s : State) (e : HostEvent) : (s.offer e).midiPassthrough = s.midiPassthrough := rfl
@[simp] theorem offer_bufLen (s : State) (e : HostEvent) : (s.offer e).bufLen = s.bufLen := rfl
@[simp] theorem offer_closed (s : State) (e : HostEvent) : (s.offer e).closed = s.closed := rfl
@[simp] theorem offer_inputs (s : State) (e : HostEvent) : (s.offer e).env.inputs = e :: s.env.inputs := rfl
@[simp] theorem offer_supply (s : State) (e : HostEvent) : (s.offer e).env.supply = s.env.supply := rfl
@[simp] theorem offer_drawn (s : State) (e : HostEvent) : (s.offer e).env.drawn = s.env.drawn := rfl
@[simp] theorem offer_trace (s : State) (e : HostEvent) : (s.offer e).env.trace = s.env.trace := rfl
@[simp] theorem offer_reply (s : State) (e : HostEvent) : (s.offer e).env.reply = s.env.reply := rfl
@[simp] theorem offer_cursor (s : State) (e : HostEvent) : (s.offer e).env.cursor = s.env.cursor := rfl

/-! ## Returned bytes -/

@[simp] theorem returnByte_eq (s : State) (b : Byte) : s.returnByte b = s.returning (.byte b) := rfl

end Sys2Proof.Machine
end

