-- ==== Sys2Proof/Laws/Ops.lean ====
section
/-! SUPPORT. For each shared operation of Sys2Proof/Machine/Ops.lean, one lemma that says once all it can do. Later
proofs cite these instead of unfolding the operation. -/

namespace Sys2Proof.Machine

open Host (Outcome)

/-! ## Admission -/

/-- A step that carries `t` answers a next state exactly when it is admitted, and then its effect on the entered state. -/
theorem access_next_iff {s s' : State} {t : Nat} {f : State → State} :
    s.access t f = .next s' ↔ Admitted s t ∧ s' = f (s.enter t) := by
  unfold State.access
  split
  · simp_all
  · split
    · simp only [reduceCtorEq, false_iff, not_and]
      rintro ⟨_, _, _⟩
      omega
    · split
      · simp only [reduceCtorEq, false_iff, not_and]
        rintro ⟨_, _, _⟩
        omega
      · simp only [Outcome.next.injEq, Admitted]
        constructor
        · rintro rfl
          exact ⟨⟨by simp_all, by omega, by omega⟩, rfl⟩
        · rintro ⟨_, rfl⟩
          rfl

/-- An admitted step completes. -/
theorem access_of_admitted {s : State} {t : Nat} (f : State → State) (h : Admitted s t) :
    s.access t f = .next (f (s.enter t)) :=
  access_next_iff.2 ⟨h, rfl⟩

/-- A `CONSTRUCT` answers a next state exactly when the block is not closed. -/
theorem lifecycle_next_iff {s s' : State} {f : State → State} :
    s.lifecycle f = .next s' ↔ s.closed = false ∧ s' = f (s.enter s.env.cursor) := by
  unfold State.lifecycle
  split
  · simp_all
  · simp only [Outcome.next.injEq]
    constructor
    · rintro rfl
      exact ⟨by simp_all, rfl⟩
    · rintro ⟨_, rfl⟩
      rfl

/-- A pull answers a next state exactly when it is admitted. -/
theorem pull_next_iff {s s' : State} {n t : Nat} {f : State → State} :
    s.pull n t f = .next s' ↔ PullAdmitted s n t ∧ s' = f (s.enter t) := by
  have h : s.pull n t f =
      if s.closed = false ∧ s.env.cursor ≤ t ∧ t ≤ s.bufLen ∧ s.bufLen < n then .refused .pullTooLong
      else s.access t f := by
    unfold State.pull State.access
    cases s.closed <;> simp only [Bool.false_eq_true, if_true, if_false] <;> split_ifs <;> simp_all <;> omega
  rw [h]
  split
  · simp only [reduceCtorEq, false_iff, not_and]
    rintro ⟨_, _⟩
    omega
  · next hn =>
    rw [access_next_iff]
    constructor
    · rintro ⟨ha, rfl⟩
      exact ⟨⟨ha, Nat.not_lt.1 fun hlt => hn ⟨ha.1, ha.2.1, ha.2.2, hlt⟩⟩, rfl⟩
    · rintro ⟨⟨ha, _⟩, rfl⟩
      exact ⟨ha, rfl⟩

/-- An admitted pull completes. -/
theorem pull_of_admitted {s : State} {n t : Nat} (f : State → State) (h : PullAdmitted s n t) :
    s.pull n t f = .next (f (s.enter t)) :=
  pull_next_iff.2 ⟨h, rfl⟩

/-! ## Draws -/

@[simp] theorem draw_nil {α : Type} (free : Nat → α) (k : Nat) : draw free k [] = (free k, []) := rfl

@[simp] theorem draw_cons {α : Type} (free : Nat → α) (k : Nat) (a : α) (rest : List α) :
    draw free k (a :: rest) = (a, rest) := rfl

/-- What a draw leaves ready: all but the oldest answer. -/
@[simp] theorem draw_snd {α : Type} (free : Nat → α) (k : Nat) (ready : List α) :
    (draw free k ready).2 = ready.drop 1 := by
  cases ready <;> rfl

/-- `SynthRead(off)` (R101): the answer drawn, the call, one draw made; nothing else. -/
theorem synthRead_eq (s : State) (off : Port) :
    s.synthRead off =
      ((draw Config.synthByte s.env.drawn s.env.supply.synth).1,
        { s with env := { s.env with
          trace := s.env.trace ++ [.synthRead off]
          supply := { s.env.supply with synth := (draw Config.synthByte s.env.drawn s.env.supply.synth).2 }
          drawn := s.env.drawn + 1 } }) := rfl

/-- `TimerRead(i)` (R56, R113): the byte and the setting of T1 drawn, the call, two draws made; nothing else. -/
theorem timerRead_eq (s : State) (i : Port) :
    s.timerRead i =
      ((draw Config.timerByte s.env.drawn s.env.supply.timer).1,
        { s with
          t1 := (draw freeSetting (s.env.drawn + 1) s.env.supply.settings).1.toT1
          env := { s.env with
            trace := s.env.trace ++ [.timerRead i]
            supply := { s.env.supply with
              timer := (draw Config.timerByte s.env.drawn s.env.supply.timer).2
              settings := (draw freeSetting (s.env.drawn + 1) s.env.supply.settings).2 }
            drawn := s.env.drawn + 2 } }) := by
  simp only [State.timerRead, State.timerEffect, State.call, State.drew]

/-- `TimerWrite(i, v)` (R114): the setting drawn becomes T1, the call, one draw made; nothing else. -/
theorem timerWrite_eq (s : State) (i : Port) (v : Byte) :
    s.timerWrite i v =
      { s with
        t1 := (draw freeSetting s.env.drawn s.env.supply.settings).1.toT1
        env := { s.env with
          trace := s.env.trace ++ [.timerWrite i v]
          supply := { s.env.supply with settings := (draw freeSetting s.env.drawn s.env.supply.settings).2 }
          drawn := s.env.drawn + 1 } } := rfl

/-- `DmaRead(SEL_DMA)` (R55): the byte drawn, the call on the selected channel, one draw made; nothing else. -/
theorem dmaRead_eq (s : State) :
    s.dmaRead =
      ((draw Config.dmaByte s.env.drawn s.env.supply.dma).1,
        { s with env := { s.env with
          trace := s.env.trace ++ [.dmaRead s.selDma]
          supply := { s.env.supply with dma := (draw Config.dmaByte s.env.drawn s.env.supply.dma).2 }
          drawn := s.env.drawn + 1 } }) := rfl

/-- A setting of T1 keeps the count in -1..65536 (R44). -/
theorem toT1_count_range (c : TimerSetting) : -1 ≤ c.toT1.count ∧ c.toT1.count ≤ 65536 := by
  simp only [TimerSetting.toT1]
  omega

/-- A draw of frames gives as many as were asked for. -/
@[simp] theorem drawFrames_length (free : Nat → Frame) (n k : Nat) (ready : List Frame) :
    (drawFrames free n k ready).1.length = n := by
  induction n generalizing k ready with
  | zero => rfl
  | succ n ih => simp [drawFrames, ih]

/-- Where enough answers are ready, a draw of frames is the first of them, and leaves the rest. -/
theorem drawFrames_ready (free : Nat → Frame) (n k : Nat) (ready : List Frame) (h : n ≤ ready.length) :
    drawFrames free n k ready = (ready.take n, ready.drop n) := by
  induction n generalizing k ready with
  | zero => rfl
  | succ n ih =>
    cases ready with
    | nil => simp at h
    | cons f fs => simp [drawFrames, ih (k + 1) fs (by simpa using h)]

/-! ## The output sample buffer -/

/-- What a flush loop of `k` frames leaves alone, and where it leaves `POS`. -/
theorem fillFrames_eq (k : Nat) (s : State) :
    s.fillFrames k = { s with pos := s.pos + k, bufL := (s.fillFrames k).bufL, bufR := (s.fillFrames k).bufR } := by
  induction k generalizing s with
  | zero => rfl
  | succ k ih =>
    rw [State.fillFrames, ih]
    simp [State.fillFrame, Nat.add_comm, Nat.add_left_comm]

theorem fillFrames_bufL_length (k : Nat) (s : State) : (s.fillFrames k).bufL.length = s.bufL.length := by
  induction k generalizing s with
  | zero => rfl
  | succ k ih => rw [State.fillFrames, ih]; simp [State.fillFrame]

theorem fillFrames_bufR_length (k : Nat) (s : State) : (s.fillFrames k).bufR.length = s.bufR.length := by
  induction k generalizing s with
  | zero => rfl
  | succ k ih => rw [State.fillFrames, ih]; simp [State.fillFrame]

/-- Frame `i` of `BUF_L` after a flush loop: new from `POS` on for `k` frames, as before elsewhere. -/
theorem fillFrames_bufL_getD (k : Nat) (s : State) (i : Nat) (h : i < s.bufL.length) :
    (s.fillFrames k).bufL.getD i 0#16 =
      if s.pos ≤ i ∧ i < s.pos + k then (if muted s.filter then 0#16 else s.latchL) else s.bufL.getD i 0#16 := by
  induction k generalizing s with
  | zero => simp [State.fillFrames]
  | succ k ih =>
    rw [State.fillFrames, ih _ (by simpa [State.fillFrame] using h)]
    simp only [State.fillFrame, List.getD_eq_getElem?_getD, List.getElem?_set]
    by_cases hi : s.pos = i
    · subst hi; simp [h]
    · simp only [hi, if_false]
      by_cases h1 : s.pos + 1 ≤ i ∧ i < s.pos + 1 + k
      · rw [if_pos h1, if_pos (by omega)]; rfl
      · rw [if_neg h1, if_neg (by omega)]

/-- Frame `i` of `BUF_R` after a flush loop. -/
theorem fillFrames_bufR_getD (k : Nat) (s : State) (i : Nat) (h : i < s.bufR.length) :
    (s.fillFrames k).bufR.getD i 0#16 =
      if s.pos ≤ i ∧ i < s.pos + k then (if muted s.filter then 0#16 else s.latchR) else s.bufR.getD i 0#16 := by
  induction k generalizing s with
  | zero => simp [State.fillFrames]
  | succ k ih =>
    rw [State.fillFrames, ih _ (by simpa [State.fillFrame] using h)]
    simp only [State.fillFrame, List.getD_eq_getElem?_getD, List.getElem?_set]
    by_cases hi : s.pos = i
    · subst hi; simp [h]
    · simp only [hi, if_false]
      by_cases h1 : s.pos + 1 ≤ i ∧ i < s.pos + 1 + k
      · rw [if_pos h1, if_pos (by omega)]; rfl
      · rw [if_neg h1, if_neg (by omega)]

/-- `Flush(t)` changes `POS` and the two buffers only, and leaves `POS` at `t` or where it was past it (R231). -/
theorem flush_eq (s : State) (t : Nat) :
    s.flush t = { s with pos := max s.pos t, bufL := (s.flush t).bufL, bufR := (s.flush t).bufR } := by
  have h := fillFrames_eq (t - s.pos) s
  unfold State.flush
  rw [h]
  have : s.pos + (t - s.pos) = max s.pos t := by omega
  simp [this]

@[simp] theorem flush_base (s : State) (t : Nat) : (s.flush t).base = s.base := by rw [flush_eq]
@[simp] theorem flush_selIrq (s : State) (t : Nat) : (s.flush t).selIrq = s.selIrq := by rw [flush_eq]
@[simp] theorem flush_selDma (s : State) (t : Nat) : (s.flush t).selDma = s.selDma := by rw [flush_eq]
@[simp] theorem flush_mixer (s : State) (t : Nat) : (s.flush t).mixer = s.mixer := by rw [flush_eq]
@[simp] theorem flush_irqStat (s : State) (t : Nat) : (s.flush t).irqStat = s.irqStat := by rw [flush_eq]
@[simp] theorem flush_filter (s : State) (t : Nat) : (s.flush t).filter = s.filter := by rw [flush_eq]
@[simp] theorem flush_irqMask (s : State) (t : Nat) : (s.flush t).irqMask = s.irqMask := by rw [flush_eq]
@[simp] theorem flush_pcmData (s : State) (t : Nat) : (s.flush t).pcmData = s.pcmData := by rw [flush_eq]
@[simp] theorem flush_pcmCtrl (s : State) (t : Nat) : (s.flush t).pcmCtrl = s.pcmCtrl := by rw [flush_eq]
@[simp] theorem flush_scsi (s : State) (t : Nat) : (s.flush t).scsi = s.scsi := by rw [flush_eq]
@[simp] theorem flush_sysConf1 (s : State) (t : Nat) : (s.flush t).sysConf1 = s.sysConf1 := by rw [flush_eq]
@[simp] theorem flush_sysConf2 (s : State) (t : Nat) : (s.flush t).sysConf2 = s.sysConf2 := by rw [flush_eq]
@[simp] theorem flush_sysConf3 (s : State) (t : Nat) : (s.flush t).sysConf3 = s.sysConf3 := by rw [flush_eq]
@[simp] theorem flush_sysConf4 (s : State) (t : Nat) : (s.flush t).sysConf4 = s.sysConf4 := by rw [flush_eq]
@[simp] theorem flush_wait (s : State) (t : Nat) : (s.flush t).wait = s.wait := by rw [flush_eq]
@[simp] theorem flush_ioConf1 (s : State) (t : Nat) : (s.flush t).ioConf1 = s.ioConf1 := by rw [flush_eq]
@[simp] theorem flush_ioConf2 (s : State) (t : Nat) : (s.flush t).ioConf2 = s.ioConf2 := by rw [flush_eq]
@[simp] theorem flush_ioConf3 (s : State) (t : Nat) : (s.flush t).ioConf3 = s.ioConf3 := by rw [flush_eq]
@[simp] theorem flush_ioConf4 (s : State) (t : Nat) : (s.flush t).ioConf4 = s.ioConf4 := by rw [flush_eq]
@[simp] theorem flush_compat (s : State) (t : Nat) : (s.flush t).compat = s.compat := by rw [flush_eq]
@[simp] theorem flush_compatBase (s : State) (t : Nat) : (s.flush t).compatBase = s.compatBase := by rw [flush_eq]
@[simp] theorem flush_sbIrqDma (s : State) (t : Nat) : (s.flush t).sbIrqDma = s.sbIrqDma := by rw [flush_eq]
@[simp] theorem flush_midiCtrl (s : State) (t : Nat) : (s.flush t).midiCtrl = s.midiCtrl := by rw [flush_eq]
@[simp] theorem flush_midiStat (s : State) (t : Nat) : (s.flush t).midiStat = s.midiStat := by rw [flush_eq]
@[simp] theorem flush_txReady (s : State) (t : Nat) : (s.flush t).txReady = s.txReady := by rw [flush_eq]
@[simp] theorem flush_rxReady (s : State) (t : Nat) : (s.flush t).rxReady = s.rxReady := by rw [flush_eq]
@[simp] theorem flush_fifo (s : State) (t : Nat) : (s.flush t).fifo = s.fifo := by rw [flush_eq]
@[simp] theorem flush_valid (s : State) (t : Nat) : (s.flush t).valid = s.valid := by rw [flush_eq]
@[simp] theorem flush_rcur (s : State) (t : Nat) : (s.flush t).rcur = s.rcur := by rw [flush_eq]
@[simp] theorem flush_wcur (s : State) (t : Nat) : (s.flush t).wcur = s.wcur := by rw [flush_eq]
@[simp] theorem flush_latchL (s : State) (t : Nat) : (s.flush t).latchL = s.latchL := by rw [flush_eq]
@[simp] theorem flush_latchR (s : State) (t : Nat) : (s.flush t).latchR = s.latchR := by rw [flush_eq]
@[simp] theorem flush_stereoR (s : State) (t : Nat) : (s.flush t).stereoR = s.stereoR := by rw [flush_eq]
@[simp] theorem flush_t1 (s : State) (t : Nat) : (s.flush t).t1 = s.t1 := by rw [flush_eq]
@[simp] theorem flush_line (s : State) (t : Nat) : (s.flush t).line = s.line := by rw [flush_eq]
@[simp] theorem flush_midiPassthrough (s : State) (t : Nat) : (s.flush t).midiPassthrough = s.midiPassthrough := by rw [flush_eq]
@[simp] theorem flush_bufLen (s : State) (t : Nat) : (s.flush t).bufLen = s.bufLen := by rw [flush_eq]
@[simp] theorem flush_closed (s : State) (t : Nat) : (s.flush t).closed = s.closed := by rw [flush_eq]
@[simp] theorem flush_env (s : State) (t : Nat) : (s.flush t).env = s.env := by rw [flush_eq]
@[simp] theorem flush_pos (s : State) (t : Nat) : (s.flush t).pos = max s.pos t := by rw [flush_eq]

theorem flush_bufL_length (s : State) (t : Nat) : (s.flush t).bufL.length = s.bufL.length := fillFrames_bufL_length _ _

theorem flush_bufR_length (s : State) (t : Nat) : (s.flush t).bufR.length = s.bufR.length := fillFrames_bufR_length _ _

/-- Frame `i` of `BUF_L` after `Flush(t)` (R231). -/
theorem flush_bufL_getD (s : State) (t i : Nat) (h : i < s.bufL.length) :
    (s.flush t).bufL.getD i 0#16 =
      if s.pos ≤ i ∧ i < t then (if muted s.filter then 0#16 else s.latchL) else s.bufL.getD i 0#16 := by
  unfold State.flush
  rw [fillFrames_bufL_getD _ _ _ h]
  by_cases h1 : s.pos ≤ i ∧ i < t
  · rw [if_pos h1, if_pos (by omega)]
  · rw [if_neg h1, if_neg (by omega)]

/-- Frame `i` of `BUF_R` after `Flush(t)` (R231). -/
theorem flush_bufR_getD (s : State) (t i : Nat) (h : i < s.bufR.length) :
    (s.flush t).bufR.getD i 0#16 =
      if s.pos ≤ i ∧ i < t then (if muted s.filter then 0#16 else s.latchR) else s.bufR.getD i 0#16 := by
  unfold State.flush
  rw [fillFrames_bufR_getD _ _ _ h]
  by_cases h1 : s.pos ≤ i ∧ i < t
  · rw [if_pos h1, if_pos (by omega)]
  · rw [if_neg h1, if_neg (by omega)]

/-- A cursor at or below `POS` flushes nothing (R231). -/
theorem flush_of_le (s : State) (t : Nat) (h : t ≤ s.pos) : s.flush t = s := by
  simp [State.flush, Nat.sub_eq_zero_of_le h, State.fillFrames]

/-! ## The interrupt line -/

/-- `Produce(bit, cond)` (R163): the bit set if the event is present, one call, the level driven; nothing else. -/
theorem produce_eq (s : State) (bit : Byte) (cond : Bool) :
    s.produce bit cond =
      { s with
        irqStat := raised bit cond s.irqStat
        line := lineLevel bit (raised bit cond s.irqStat) s.irqMask
        env := { s.env with
          trace := s.env.trace ++ [lineCall (lineLevel bit (raised bit cond s.irqStat) s.irqMask) s.selIrq] } } := rfl

/-- `MidiEval()` (R179). -/
theorem midiEval_eq (s : State) : s.midiEval = s.produce Config.params.intMidi (s.txReady || s.rxReady) := rfl

/-- A level of a driven line is the last one driven (R46). -/
theorem drivenLevel_append (trace : List Call) (c : Call) :
    drivenLevel (trace ++ [c]) = levelAfter (drivenLevel trace) c := by
  simp [drivenLevel]

@[simp] theorem levelAfter_lineCall (b level : Bool) (sel : Fin 16) : levelAfter b (lineCall level sel) = level := by
  cases level <;> rfl

/-! ## MIDI -/

/-- MIDI data write (R180): the call, `TX_READY`, and the producer with its event present. -/
theorem midiSend_eq (s : State) (v : Byte) :
    s.midiSend v = ({ s.call (.uartSend v) with txReady := true }).produce Config.params.intMidi true := rfl

/-- The pop of a FIFO (R183): flag, cursor, receive-ready, producer. -/
theorem midiPop_eq (s : State) :
    s.midiPop =
      ({ s with
        valid := s.valid.set s.rcur false
        rcur := s.rcur + 1
        rxReady := (s.rcur + 1) != s.wcur }).produce
        Config.params.intMidi (s.txReady || ((s.rcur + 1) != s.wcur)) := rfl

/-- MIDI data read (R183). -/
theorem midiRead_eq (s : State) :
    s.midiRead =
      if s.rcur = s.wcur then s.returning (.byte s.fifo[s.rcur]) else s.midiPop.returning (.byte s.fifo[s.rcur]) := by
  by_cases h : s.rcur = s.wcur <;> simp [State.midiRead, State.midiData, h]

/-- What a MIDI data read leaves alone: all but the flags, the read cursor, receive-ready, the interrupt status and line,
the record of calls and the byte returned (R183). -/
theorem midiRead_frame (s : State) :
    s.midiRead =
      { s with
        valid := s.midiRead.valid, rcur := s.midiRead.rcur, rxReady := s.midiRead.rxReady
        irqStat := s.midiRead.irqStat, line := s.midiRead.line
        env := { s.env with trace := s.midiRead.env.trace, reply := s.midiRead.env.reply } } := by
  rw [midiRead_eq]
  split <;> rfl

/-- The receive path (R186): slot, flag, cursor, receive-ready, producer. -/
theorem midiPush_eq (s : State) (b : Byte) :
    s.midiPush b =
      ({ s with
        fifo := s.fifo.set s.wcur b
        valid := s.valid.set s.wcur true
        wcur := s.wcur + 1
        rxReady := s.rcur != (s.wcur + 1) }).produce
        Config.params.intMidi (s.txReady || (s.rcur != (s.wcur + 1))) := rfl

/-! ## Compatibility addresses and reset -/

/-- `CompatPush()` (R130): two calls, the DSP's first; nothing else. -/
theorem compatPush_eq (s : State) :
    s.compatPush =
      { s with env := { s.env with
        trace := s.env.trace ++
          [.dspSetAddr (dspAddress s.compat s.compatBase), .uartSetAddr (uartAddress s.compat s.compatBase)] } } := by
  simp [State.compatPush, State.call]

/-- `DeviceReset(t)` (R272): the flush, the registers at their reset values, the line deasserted, four calls. -/
theorem deviceReset_eq (s : State) (t : Nat) :
    s.deviceReset t =
      { (s.flush t).resetRegisters with
        line := false
        env := { s.env with
          trace := s.env.trace ++
            [.irqDeassert (1#16 <<< s.selIrq.val), .dspSetAddr 0x0000#16, .uartSetAddr 0x0000#16,
              .dspSetIrqDma 0x00#8] } } := by
  simp [State.deviceReset, compatPush_eq, State.call, State.resetRegisters, State.midiEmptied, lineMask,
    dspAddress, uartAddress]

/-! ## The sampler -/

/-- `DmaRead` with a byte ready returns that byte (R55). -/
theorem dmaRead_ready (s : State) (b : Byte) (rest : List Byte) (h : s.env.supply.dma = b :: rest) :
    s.dmaRead = (b, (s.call (.dmaRead s.selDma)).drew { s.env.supply with dma := rest }) := by
  simp [State.dmaRead, h]

/-- `DmaRead` with no byte ready returns the free value of the draw (R55). -/
theorem dmaRead_free (s : State) (h : s.env.supply.dma = []) :
    s.dmaRead =
      (Config.dmaByte s.env.drawn, (s.call (.dmaRead s.selDma)).drew { s.env.supply with dma := [] }) := by
  simp [State.dmaRead, h]

/-- `Assemble()` (R203-R206) changes nothing but the record of calls, the answers ready and the count of draws: two DMA
reads of the selected channel in 16-bit mode, one in 8-bit mode. -/
theorem assemble_eq (s : State) :
    s.assemble.2 =
      { s with env := { s.env with
        trace := s.env.trace ++ List.replicate (if wideSamples s.sysConf2 then 2 else 1) (.dmaRead s.selDma)
        supply := { s.env.supply with dma := s.env.supply.dma.drop (if wideSamples s.sysConf2 then 2 else 1) }
        drawn := s.env.drawn + if wideSamples s.sysConf2 then 2 else 1 } } := by
  unfold State.assemble
  cases wideSamples s.sysConf2
  · simp [dmaRead_eq]
  · simp [dmaRead_eq, List.replicate]

/-- Routing changes the latches and the toggle only (R207, R208). -/
theorem route_eq (s : State) (x : Sample) :
    s.route x =
      { s with
        latchL := if pcmMonoMode s.pcmCtrl || !s.stereoR then x else s.latchL
        latchR := if pcmMonoMode s.pcmCtrl || s.stereoR then x else s.latchR
        stereoR := if pcmMonoMode s.pcmCtrl then s.stereoR else !s.stereoR } := by
  unfold State.route
  cases pcmMonoMode s.pcmCtrl <;> cases s.stereoR <;> simp

/-- The countdown (R210-R213): T1, and on underflow the PCM producer. -/
theorem countdown_eq (s : State) :
    s.countdown =
      if s.t1.underflows (countStep s.sysConf2) then
        ({ s with t1 := s.t1.countdown (countStep s.sysConf2) }).produce Config.params.intPcm true
      else { s with t1 := s.t1.countdown (countStep s.sysConf2) } := rfl

/-- A tick (R201, R202): the flush, the sample-rate producer, and with T1 enabled the sample, if PCM is enabled, and the
countdown. -/
theorem tickOp_eq (s : State) (t : Nat) :
    s.tickOp t =
      if s.t1.en then
        if pcmEnabled s.pcmCtrl then
          (((s.flush t).produce Config.params.intSamp true).assemble.2.route
            ((s.flush t).produce Config.params.intSamp true).assemble.1).countdown
        else ((s.flush t).produce Config.params.intSamp true).countdown
      else (s.flush t).produce Config.params.intSamp true := by
  simp only [State.tickOp, produce_eq, flush_t1, flush_pcmCtrl]

/-- `s'` differs from `s` in nothing but what a tick may change: the sample buffer and its cursor, the interrupt status
and line, the latches, the toggle, T1, and the record of calls and draws (R201, R202). -/
abbrev TickFrame (s s' : State) : Prop :=
  s' = { s with
    pos := s'.pos, bufL := s'.bufL, bufR := s'.bufR, irqStat := s'.irqStat, line := s'.line, latchL := s'.latchL
    latchR := s'.latchR, stereoR := s'.stereoR, t1 := s'.t1
    env := { s.env with trace := s'.env.trace, supply := s'.env.supply, drawn := s'.env.drawn } }

theorem tickFrame_trans {a b c : State} (hab : TickFrame a b) (hbc : TickFrame b c) : TickFrame a c := by
  unfold TickFrame
  rw [hbc, hab]

theorem flush_tickFrame (s : State) (t : Nat) : TickFrame s (s.flush t) := by
  unfold TickFrame
  rw [flush_eq]

theorem produce_tickFrame (s : State) (bit : Byte) (cond : Bool) : TickFrame s (s.produce bit cond) := rfl

theorem assemble_tickFrame (s : State) : TickFrame s s.assemble.2 := by
  unfold TickFrame
  rw [assemble_eq]

theorem route_tickFrame (s : State) (x : Sample) : TickFrame s (s.route x) := by
  unfold TickFrame
  rw [route_eq]

theorem countdown_tickFrame (s : State) : TickFrame s s.countdown := by
  rw [countdown_eq]
  cases s.t1.underflows (countStep s.sysConf2) <;> rfl

/-- What a tick leaves alone (R201, R202). -/
theorem tickOp_frame (s : State) (t : Nat) : TickFrame s (s.tickOp t) := by
  have h := tickFrame_trans (flush_tickFrame s t) (produce_tickFrame _ Config.params.intSamp true)
  rw [tickOp_eq]
  cases s.t1.en
  · exact h
  · cases pcmEnabled s.pcmCtrl
    · exact tickFrame_trans h (countdown_tickFrame _)
    · exact tickFrame_trans h
        (tickFrame_trans (assemble_tickFrame _) (tickFrame_trans (route_tickFrame _ _) (countdown_tickFrame _)))

/-- The countdown keeps the count in -1..65536 (R44, R210-R212). -/
theorem countdown_count_range (c : T1) (dec : Int) (hd : 0 ≤ dec) (h : c.count ≤ 65536) :
    -1 ≤ (c.countdown dec).count ∧ (c.countdown dec).count ≤ 65536 := by
  unfold T1.countdown T1.underflows T1.reload
  have := c.period.isLt
  split
  · split
    · dsimp only
      split <;> omega
    · dsimp only
      omega
  · simp_all only [decide_eq_true_eq]
    omega

/-! ## Buffer pulls -/

/-- `DspMix(n)` (R233): `n` frames drawn, the call, `n` draws made; nothing else. -/
theorem dspMix_eq (s : State) (n : Nat) :
    s.dspMix n =
      ((drawFrames Config.dspFrame n s.env.drawn s.env.supply.dspFrames).1,
        { s with env := { s.env with
          trace := s.env.trace ++ [.dspMix n]
          supply := { s.env.supply with
            dspFrames := (drawFrames Config.dspFrame n s.env.drawn s.env.supply.dspFrames).2 }
          drawn := s.env.drawn + n } }) := rfl

/-- `SynthPull(n)` (R235): `n` frames drawn, the call, `n` draws made; nothing else. -/
theorem synthPull_eq (s : State) (n : Nat) :
    s.synthPull n =
      ((drawFrames Config.synthFrame n s.env.drawn s.env.supply.synthFrames).1,
        { s with env := { s.env with
          trace := s.env.trace ++ [.synthPull n]
          supply := { s.env.supply with
            synthFrames := (drawFrames Config.synthFrame n s.env.drawn s.env.supply.synthFrames).2 }
          drawn := s.env.drawn + n } }) := rfl

/-- The accumulator of a main pull has `n` frames. -/
@[simp] theorem mixPcm_length (s : State) (n : Nat) (acc dsp : List Frame) : (mixPcm s n acc dsp).length = n := by
  simp [mixPcm]

/-- The accumulator of a synthesizer pull has `n` frames. -/
@[simp] theorem mixSynth_length (n : Nat) (acc synth : List Frame) : (mixSynth n acc synth).length = n := by
  simp [mixSynth]

/-- Frame `k` of a main pull (R233). -/
theorem mixPcm_getD (s : State) (n k : Nat) (acc dsp : List Frame) (h : k < n) :
    (mixPcm s n acc dsp).getD k ⟨0, 0⟩ =
      ⟨(frameAt acc k).l + (frameAt dsp k).l + (s.pcmFrame k).l,
        (frameAt acc k).r + (frameAt dsp k).r + (s.pcmFrame k).r⟩ := by
  simp [mixPcm, h]

/-- Frame `k` of a synthesizer pull (R235). -/
theorem mixSynth_getD (n k : Nat) (acc synth : List Frame) (h : k < n) :
    (mixSynth n acc synth).getD k ⟨0, 0⟩ =
      ⟨(frameAt acc k).l + (frameAt synth k).l, (frameAt acc k).r + (frameAt synth k).r⟩ := by
  simp [mixSynth, h]

/-! ## The step -/

/-- While the block is not closed an event decodes by `BASE` (R71, R76). -/
theorem decode_of_live {s : State} (h : s.closed = false) (e : HostEvent) : s.decode e = Sys2Proof.decode s.base e := by
  simp [State.decode, h]

/-- Once it is closed no window is bound (R271). -/
theorem decode_of_closed {s : State} (h : s.closed = true) (e : HostEvent) : s.decode e = decodeClosed s.base e := by
  simp [State.decode, h]

/-- A step that answers a next state took no event, or executed the oldest one in the state without it. -/
theorem step_next_cases {s s' : State} (h : step s = .next s') :
    (s.env.inputs = [] ∧ s' = s) ∨
      ∃ e rest i, s.env.inputs = e :: rest ∧ s.decode e = .ok i ∧
        exec i { s with env := { s.env with inputs := rest } } = .next s' := by
  unfold step at h
  split at h
  · next hi => exact .inl ⟨hi, by simpa using h.symm⟩
  · next e rest hi =>
    split at h
    · next i hd => exact .inr ⟨e, rest, i, hi, hd, h⟩
    · cases h

/-! ## The receive FIFO as a queue, and numbers of pulls -/

/-- As many unread bytes as unread slots. -/
@[simp] theorem unread_length (s : State) : s.unread.length = s.unreadCount := by simp [State.unread]

/-- The queue depends on the cursors and the slots alone. -/
theorem unread_congr {s s' : State} (hr : s'.rcur = s.rcur) (hw : s'.wcur = s.wcur) (hf : s'.fifo = s.fifo) :
    s'.unread = s.unread := by
  simp only [State.unread, State.unreadCount, hr, hw, hf]

/-- The number of low zero bits of `2 ^ n` times an odd number is `n`, given enough fuel. -/
theorem lowZeros_two_pow_mul_odd (n t : Nat) : ∀ fuel, n ≤ fuel → lowZeros fuel (2 ^ n * (2 * t + 1)) = n := by
  induction n with
  | zero => intro fuel _; cases fuel <;> simp [lowZeros]
  | succ n ih =>
    intro fuel h
    cases fuel with
    | zero => omega
    | succ f =>
      have e : 2 ^ (n + 1) * (2 * t + 1) = 2 * (2 ^ n * (2 * t + 1)) := by ring
      simp only [lowZeros, e]
      rw [if_pos (by omega), Nat.mul_div_cancel_left _ (by omega), ih f (by omega)]

end Sys2Proof.Machine
end

