-- ==== Sys2Proof/Laws/PerInstr.lean ====
section
/-! SUPPORT. A fact of every instruction as syntax: its event has the format of its row (spec/30_encoding.md tables
30.1 and 30.2). -/

namespace Sys2Proof.Laws.Encoded

/-- The format of an instruction's events: the access kind its row of table 30.2 lists, or the event of table 30.1. -/
def rowFormat : Instr → Format
  | .inSynth _ _ => .ioRead
  | .outSynth _ _ _ => .ioWrite
  | .inMixer _ => .ioRead
  | .outMixer _ _ => .ioWrite
  | .inIrqStat _ => .ioRead
  | .outIrqStat _ _ => .ioWrite
  | .inFilter _ => .ioRead
  | .outFilter _ _ => .ioWrite
  | .inIrqMask _ => .ioRead
  | .outIrqMask _ _ => .ioWrite
  | .inPcmDataLo _ => .ioRead
  | .outPcmDataLo _ _ => .ioWrite
  | .inPcmDataHi _ => .ioRead
  | .outPcmDataHi _ _ => .ioWrite
  | .inPcmCtrl _ => .ioRead
  | .outPcmCtrl _ _ => .ioWrite
  | .inTimer _ _ => .ioRead
  | .outTimer _ _ _ => .ioWrite
  | .inMidiCtrl _ => .ioRead
  | .outMidiCtrl _ _ => .ioWrite
  | .inMidiData _ => .ioRead
  | .outMidiData _ _ => .ioWrite
  | .inMidiDataAlias _ => .ioRead
  | .outMidiDataAlias _ _ => .ioWrite
  | .inMidiStat _ => .ioRead
  | .outMidiStat _ _ => .ioWrite
  | .inBoardRev _ => .ioRead
  | .outBoardRev _ _ => .ioWrite
  | .inScsi _ => .ioRead
  | .outScsi _ _ => .ioWrite
  | .inSysConf1 _ => .ioRead
  | .outSysConf1 _ _ => .ioWrite
  | .inSysConf2 _ => .ioRead
  | .outSysConf2 _ _ => .ioWrite
  | .inSysConf3 _ => .ioRead
  | .outSysConf3 _ _ => .ioWrite
  | .inSysConf4 _ => .ioRead
  | .outSysConf4 _ _ => .ioWrite
  | .inWait _ => .ioRead
  | .outWait _ _ => .ioWrite
  | .inIoConf1 _ => .ioRead
  | .outIoConf1 _ _ => .ioWrite
  | .inIoConf2 _ => .ioRead
  | .outIoConf2 _ _ => .ioWrite
  | .inIoConf3 _ => .ioRead
  | .outIoConf3 _ _ => .ioWrite
  | .inIoConf4 _ => .ioRead
  | .outIoConf4 _ _ => .ioWrite
  | .inCompat _ => .ioRead
  | .outCompat _ _ => .ioWrite
  | .inCompatBase _ => .ioRead
  | .outCompatBase _ _ => .ioWrite
  | .inSbIrqDma _ => .ioRead
  | .outSbIrqDma _ _ => .ioWrite
  | .inBoardId _ => .ioRead
  | .outBoardId _ _ => .ioWrite
  | .outBaseSelect _ _ => .ioWrite
  | .inBaseSelect _ => .ioRead
  | .inUnmapped _ _ => .ioRead
  | .outUnmapped _ _ _ => .ioWrite
  | .unbound _ none _ => .ioRead
  | .unbound _ (some _) _ => .ioWrite
  | .tick _ => .tick
  | .midiIn _ _ => .midiIn
  | .pullPcm _ _ _ => .pullPcm
  | .pullSynth _ _ _ => .pullSynth
  | .hostReset _ => .hostReset
  | .construct _ => .construct
  | .close _ => .close

/-- At every base the instruction's event has the format of its row. -/
def Statement (i : Instr) : Prop := ∀ base : Port, (encode base i).format = rowFormat i

theorem inSynth (off : Port) (t : Nat) : Statement (.inSynth off t) := fun _ => rfl
theorem outSynth (off : Port) (v : Byte) (t : Nat) : Statement (.outSynth off v t) := fun _ => rfl
theorem inMixer (t : Nat) : Statement (.inMixer t) := fun _ => rfl
theorem outMixer (v : Byte) (t : Nat) : Statement (.outMixer v t) := fun _ => rfl
theorem inIrqStat (t : Nat) : Statement (.inIrqStat t) := fun _ => rfl
theorem outIrqStat (v : Byte) (t : Nat) : Statement (.outIrqStat v t) := fun _ => rfl
theorem inFilter (t : Nat) : Statement (.inFilter t) := fun _ => rfl
theorem outFilter (v : Byte) (t : Nat) : Statement (.outFilter v t) := fun _ => rfl
theorem inIrqMask (t : Nat) : Statement (.inIrqMask t) := fun _ => rfl
theorem outIrqMask (v : Byte) (t : Nat) : Statement (.outIrqMask v t) := fun _ => rfl
theorem inPcmDataLo (t : Nat) : Statement (.inPcmDataLo t) := fun _ => rfl
theorem outPcmDataLo (v : Byte) (t : Nat) : Statement (.outPcmDataLo v t) := fun _ => rfl
theorem inPcmDataHi (t : Nat) : Statement (.inPcmDataHi t) := fun _ => rfl
theorem outPcmDataHi (v : Byte) (t : Nat) : Statement (.outPcmDataHi v t) := fun _ => rfl
theorem inPcmCtrl (t : Nat) : Statement (.inPcmCtrl t) := fun _ => rfl
theorem outPcmCtrl (v : Byte) (t : Nat) : Statement (.outPcmCtrl v t) := fun _ => rfl
theorem inTimer (off : Port) (t : Nat) : Statement (.inTimer off t) := fun _ => rfl
theorem outTimer (off : Port) (v : Byte) (t : Nat) : Statement (.outTimer off v t) := fun _ => rfl
theorem inMidiCtrl (t : Nat) : Statement (.inMidiCtrl t) := fun _ => rfl
theorem outMidiCtrl (v : Byte) (t : Nat) : Statement (.outMidiCtrl v t) := fun _ => rfl
theorem inMidiData (t : Nat) : Statement (.inMidiData t) := fun _ => rfl
theorem outMidiData (v : Byte) (t : Nat) : Statement (.outMidiData v t) := fun _ => rfl
theorem inMidiDataAlias (t : Nat) : Statement (.inMidiDataAlias t) := fun _ => rfl
theorem outMidiDataAlias (v : Byte) (t : Nat) : Statement (.outMidiDataAlias v t) := fun _ => rfl
theorem inMidiStat (t : Nat) : Statement (.inMidiStat t) := fun _ => rfl
theorem outMidiStat (v : Byte) (t : Nat) : Statement (.outMidiStat v t) := fun _ => rfl
theorem inBoardRev (t : Nat) : Statement (.inBoardRev t) := fun _ => rfl
theorem outBoardRev (v : Byte) (t : Nat) : Statement (.outBoardRev v t) := fun _ => rfl
theorem inScsi (t : Nat) : Statement (.inScsi t) := fun _ => rfl
theorem outScsi (v : Byte) (t : Nat) : Statement (.outScsi v t) := fun _ => rfl
theorem inSysConf1 (t : Nat) : Statement (.inSysConf1 t) := fun _ => rfl
theorem outSysConf1 (v : Byte) (t : Nat) : Statement (.outSysConf1 v t) := fun _ => rfl
theorem inSysConf2 (t : Nat) : Statement (.inSysConf2 t) := fun _ => rfl
theorem outSysConf2 (v : Byte) (t : Nat) : Statement (.outSysConf2 v t) := fun _ => rfl
theorem inSysConf3 (t : Nat) : Statement (.inSysConf3 t) := fun _ => rfl
theorem outSysConf3 (v : Byte) (t : Nat) : Statement (.outSysConf3 v t) := fun _ => rfl
theorem inSysConf4 (t : Nat) : Statement (.inSysConf4 t) := fun _ => rfl
theorem outSysConf4 (v : Byte) (t : Nat) : Statement (.outSysConf4 v t) := fun _ => rfl
theorem inWait (t : Nat) : Statement (.inWait t) := fun _ => rfl
theorem outWait (v : Byte) (t : Nat) : Statement (.outWait v t) := fun _ => rfl
theorem inIoConf1 (t : Nat) : Statement (.inIoConf1 t) := fun _ => rfl
theorem outIoConf1 (v : Byte) (t : Nat) : Statement (.outIoConf1 v t) := fun _ => rfl
theorem inIoConf2 (t : Nat) : Statement (.inIoConf2 t) := fun _ => rfl
theorem outIoConf2 (v : Byte) (t : Nat) : Statement (.outIoConf2 v t) := fun _ => rfl
theorem inIoConf3 (t : Nat) : Statement (.inIoConf3 t) := fun _ => rfl
theorem outIoConf3 (v : Byte) (t : Nat) : Statement (.outIoConf3 v t) := fun _ => rfl
theorem inIoConf4 (t : Nat) : Statement (.inIoConf4 t) := fun _ => rfl
theorem outIoConf4 (v : Byte) (t : Nat) : Statement (.outIoConf4 v t) := fun _ => rfl
theorem inCompat (t : Nat) : Statement (.inCompat t) := fun _ => rfl
theorem outCompat (v : Byte) (t : Nat) : Statement (.outCompat v t) := fun _ => rfl
theorem inCompatBase (t : Nat) : Statement (.inCompatBase t) := fun _ => rfl
theorem outCompatBase (v : Byte) (t : Nat) : Statement (.outCompatBase v t) := fun _ => rfl
theorem inSbIrqDma (t : Nat) : Statement (.inSbIrqDma t) := fun _ => rfl
theorem outSbIrqDma (v : Byte) (t : Nat) : Statement (.outSbIrqDma v t) := fun _ => rfl
theorem inBoardId (t : Nat) : Statement (.inBoardId t) := fun _ => rfl
theorem outBoardId (v : Byte) (t : Nat) : Statement (.outBoardId v t) := fun _ => rfl
theorem outBaseSelect (v : Byte) (t : Nat) : Statement (.outBaseSelect v t) := fun _ => rfl
theorem inBaseSelect (t : Nat) : Statement (.inBaseSelect t) := fun _ => rfl
theorem inUnmapped (off : Port) (t : Nat) : Statement (.inUnmapped off t) := fun _ => rfl
theorem outUnmapped (off : Port) (v : Byte) (t : Nat) : Statement (.outUnmapped off v t) := fun _ => rfl
theorem unbound (port : Port) (d : Option Byte) (t : Nat) : Statement (.unbound port d t) := fun _ => by cases d <;> rfl
theorem tick (t : Nat) : Statement (.tick t) := fun _ => rfl
theorem midiIn (b : Byte) (t : Nat) : Statement (.midiIn b t) := fun _ => rfl
theorem pullPcm (n : Nat) (acc : List Frame) (t : Nat) : Statement (.pullPcm n acc t) := fun _ => rfl
theorem pullSynth (n : Nat) (acc : List Frame) (t : Nat) : Statement (.pullSynth n acc t) := fun _ => rfl
theorem hostReset (t : Nat) : Statement (.hostReset t) := fun _ => rfl
theorem construct (p : Bool) : Statement (.construct p) := fun _ => rfl
theorem close (t : Nat) : Statement (.close t) := fun _ => rfl

end Sys2Proof.Laws.Encoded
end

