-- ==== Sys2Proof/Tests/Slice0.lean ====
section
/-! SUPPORT. Tests of the model. Expected results come from the spec: the encodings of spec/30_encoding.md tables 30.1
and 30.2, and the vectors and programs of spec/95_test_vectors.md, named in each comment. The last part shows, for each
statement that has hypotheses, a state and operands that meet them all. -/

namespace Sys2Proof.Tests

open Sys2Proof Sys2Proof.Machine
open Host (Outcome)

/-- The common start state of 95_test_vectors.md with `BUFLEN` = 8, and the passthrough on for the MIDI vectors. -/
def start : State := State.atConstruction true 8 Env.initial

/-- What `f` sees after a step that completes. -/
def after {α : Type} (o : Outcome State Fault Refusal) (f : State → α) : Option α :=
  match o with
  | .next s => some (f s)
  | _ => none

/-- The calls made since construction. -/
def newCalls (s : State) : List Call := s.env.trace.drop 3

/-! ## Ill-formed terms are refused -/

/-- A synthesizer offset outside 0x388-0x38b (table 30.2). -/
theorem test_illformed_synth : WellFormed 0x388#16 (.inSynth 0x38c#16 0) = false ∧
    WellFormed 0x388#16 (.outSynth 0x387#16 0x01#8 0) = false ∧
    WellFormed 0x388#16 (.inSynth 0x38b#16 0) = true := by decide

/-- A timer offset outside 0x1388-0x138b (table 30.2). -/
theorem test_illformed_timer : WellFormed 0x388#16 (.inTimer 0x138c#16 0) = false ∧
    WellFormed 0x388#16 (.outTimer 0x388#16 0x74#8 0) = false ∧
    WellFormed 0x388#16 (.outTimer 0x138b#16 0x74#8 0) = true := by decide

/-- An unmapped access at an offset that has a row, and at one in no window (R146, R148). -/
theorem test_illformed_unmapped : WellFormed 0x388#16 (.inUnmapped 0xb89#16 0) = false ∧
    WellFormed 0x388#16 (.outUnmapped 0x0400#16 0x12#8 0) = false ∧
    WellFormed 0x388#16 (.outUnmapped 0xff8c#16 0x12#8 0) = false ∧
    WellFormed 0x388#16 (.inUnmapped 0xff8b#16 0) = true := by decide

/-- An unbound access at a bound port, also one bound only at another base, and at the base-select port (R148, R151). -/
theorem test_illformed_unbound : WellFormed 0x388#16 (.unbound 0x0b89#16 none 0) = false ∧
    WellFormed 0x384#16 (.unbound 0x0b85#16 (some 0x01#8) 0) = false ∧
    WellFormed 0x388#16 (.unbound 0x9a01#16 none 0) = false ∧
    WellFormed 0x3fc#16 (.unbound 0x0000#16 none 0) = true := by decide

/-- A pull whose accumulator is too short or too long (table 30.1). -/
theorem test_illformed_pull : WellFormed 0x388#16 (.pullPcm 2 [⟨0, 0⟩] 0) = false ∧
    WellFormed 0x388#16 (.pullSynth 0 [⟨0, 0⟩] 0) = false ∧
    WellFormed 0x388#16 (.pullPcm 1 [⟨5, -5⟩] 0) = true := by decide

/-- The base is a multiple of 4 up to 0x3FC (R21). -/
theorem test_legal_bases : legalBase 0x000#16 = true ∧ legalBase 0x3fc#16 = true ∧ legalBase 0x386#16 = false ∧
    legalBase 0x400#16 = false := by decide

/-! ## Decoding, every constructor from an event written out of table 30.1 or 30.2 -/

/-- Synthesizer window; the second offset is at base 0x384 (L1.8). -/
theorem test_decode_synth :
    decode 0x388#16 (.ioRead 0x038b#16 1) = .ok (.inSynth 0x38b#16 1) ∧
    decode 0x384#16 (.ioWrite 0x0385#16 0x20#8 2) = .ok (.outSynth 0x389#16 0x20#8 2) := by decide

/-- The window at 0xb88. -/
theorem test_decode_b88 :
    decode 0x388#16 (.ioRead 0x0b88#16 1) = .ok (.inMixer 1) ∧
    decode 0x388#16 (.ioWrite 0x0b88#16 0x5a#8 2) = .ok (.outMixer 0x5a#8 2) ∧
    decode 0x384#16 (.ioRead 0x0b85#16 3) = .ok (.inIrqStat 3) ∧
    decode 0x388#16 (.ioWrite 0x0b89#16 0x0c#8 4) = .ok (.outIrqStat 0x0c#8 4) ∧
    decode 0x388#16 (.ioRead 0x0b8a#16 5) = .ok (.inFilter 5) ∧
    decode 0x384#16 (.ioWrite 0x0b86#16 0x20#8 6) = .ok (.outFilter 0x20#8 6) ∧
    decode 0x388#16 (.ioRead 0x0b8b#16 7) = .ok (.inIrqMask 7) ∧
    decode 0x388#16 (.ioWrite 0x0b8b#16 0x08#8 8) = .ok (.outIrqMask 0x08#8 8) := by decide

/-- The window at 0xf88. -/
theorem test_decode_f88 :
    decode 0x388#16 (.ioRead 0x0f88#16 1) = .ok (.inPcmDataLo 1) ∧
    decode 0x388#16 (.ioWrite 0x0f88#16 0xcd#8 2) = .ok (.outPcmDataLo 0xcd#8 2) ∧
    decode 0x388#16 (.ioRead 0x0f89#16 3) = .ok (.inPcmDataHi 3) ∧
    decode 0x388#16 (.ioWrite 0x0f89#16 0xab#8 4) = .ok (.outPcmDataHi 0xab#8 4) ∧
    decode 0x388#16 (.ioRead 0x0f8a#16 5) = .ok (.inPcmCtrl 5) ∧
    decode 0x384#16 (.ioWrite 0x0f86#16 0x60#8 6) = .ok (.outPcmCtrl 0x60#8 6) := by decide

/-- The timer window (V-REG-24, V-REG-25). -/
theorem test_decode_timer :
    decode 0x388#16 (.ioRead 0x1389#16 1) = .ok (.inTimer 0x1389#16 1) ∧
    decode 0x388#16 (.ioWrite 0x138b#16 0x74#8 2) = .ok (.outTimer 0x138b#16 0x74#8 2) := by decide

/-- The MIDI registers. -/
theorem test_decode_midi :
    decode 0x388#16 (.ioRead 0x1789#16 1) = .ok (.inMidiCtrl 1) ∧
    decode 0x388#16 (.ioWrite 0x1789#16 0x60#8 2) = .ok (.outMidiCtrl 0x60#8 2) ∧
    decode 0x388#16 (.ioRead 0x178a#16 3) = .ok (.inMidiData 3) ∧
    decode 0x388#16 (.ioWrite 0x178a#16 0xf8#8 4) = .ok (.outMidiData 0xf8#8 4) ∧
    decode 0x388#16 (.ioRead 0x178b#16 5) = .ok (.inMidiDataAlias 5) ∧
    decode 0x388#16 (.ioWrite 0x178b#16 0xf8#8 6) = .ok (.outMidiDataAlias 0xf8#8 6) ∧
    decode 0x384#16 (.ioRead 0x1b84#16 7) = .ok (.inMidiStat 7) ∧
    decode 0x388#16 (.ioWrite 0x1b88#16 0x00#8 8) = .ok (.outMidiStat 0x00#8 8) := by decide

/-- Board, SCSI and wait-state registers. -/
theorem test_decode_board :
    decode 0x388#16 (.ioRead 0x2789#16 1) = .ok (.inBoardRev 1) ∧
    decode 0x388#16 (.ioWrite 0x2789#16 0x55#8 2) = .ok (.outBoardRev 0x55#8 2) ∧
    decode 0x388#16 (.ioRead 0x7f89#16 3) = .ok (.inScsi 3) ∧
    decode 0x388#16 (.ioWrite 0x7f89#16 0x03#8 4) = .ok (.outScsi 0x03#8 4) ∧
    decode 0x388#16 (.ioRead 0xbf88#16 5) = .ok (.inWait 5) ∧
    decode 0x388#16 (.ioWrite 0xbf88#16 0x01#8 6) = .ok (.outWait 0x01#8 6) ∧
    decode 0x3fc#16 (.ioRead 0xfffc#16 7) = .ok (.inBoardId 7) ∧
    decode 0x388#16 (.ioWrite 0xff88#16 0x00#8 8) = .ok (.outBoardId 0x00#8 8) := by decide

/-- The window at 0x8388. -/
theorem test_decode_sysconf :
    decode 0x388#16 (.ioRead 0x8388#16 1) = .ok (.inSysConf1 1) ∧
    decode 0x388#16 (.ioWrite 0x8388#16 0x80#8 2) = .ok (.outSysConf1 0x80#8 2) ∧
    decode 0x388#16 (.ioRead 0x8389#16 3) = .ok (.inSysConf2 3) ∧
    decode 0x384#16 (.ioWrite 0x8385#16 0x10#8 4) = .ok (.outSysConf2 0x10#8 4) ∧
    decode 0x388#16 (.ioRead 0x838a#16 5) = .ok (.inSysConf3 5) ∧
    decode 0x388#16 (.ioWrite 0x838a#16 0x01#8 6) = .ok (.outSysConf3 0x01#8 6) ∧
    decode 0x388#16 (.ioRead 0x838b#16 7) = .ok (.inSysConf4 7) ∧
    decode 0x388#16 (.ioWrite 0x838b#16 0x01#8 8) = .ok (.outSysConf4 0x01#8 8) := by decide

/-- The window at 0xf388. -/
theorem test_decode_ioconf :
    decode 0x388#16 (.ioRead 0xf388#16 1) = .ok (.inIoConf1 1) ∧
    decode 0x388#16 (.ioWrite 0xf388#16 0x34#8 2) = .ok (.outIoConf1 0x34#8 2) ∧
    decode 0x388#16 (.ioRead 0xf389#16 3) = .ok (.inIoConf2 3) ∧
    decode 0x384#16 (.ioWrite 0xf385#16 0x03#8 4) = .ok (.outIoConf2 0x03#8 4) ∧
    decode 0x388#16 (.ioRead 0xf38a#16 5) = .ok (.inIoConf3 5) ∧
    decode 0x388#16 (.ioWrite 0xf38a#16 0x17#8 6) = .ok (.outIoConf3 0x17#8 6) ∧
    decode 0x388#16 (.ioRead 0xf38b#16 7) = .ok (.inIoConf4 7) ∧
    decode 0x388#16 (.ioWrite 0xf38b#16 0x01#8 8) = .ok (.outIoConf4 0x01#8 8) := by decide

/-- The compatibility registers. -/
theorem test_decode_compat :
    decode 0x388#16 (.ioRead 0xf788#16 1) = .ok (.inCompat 1) ∧
    decode 0x388#16 (.ioWrite 0xf788#16 0x03#8 2) = .ok (.outCompat 0x03#8 2) ∧
    decode 0x388#16 (.ioRead 0xf789#16 3) = .ok (.inCompatBase 3) ∧
    decode 0x388#16 (.ioWrite 0xf789#16 0x23#8 4) = .ok (.outCompatBase 0x23#8 4) ∧
    decode 0x388#16 (.ioRead 0xfb8a#16 5) = .ok (.inSbIrqDma 5) ∧
    decode 0x388#16 (.ioWrite 0xfb8a#16 0x2a#8 6) = .ok (.outSbIrqDma 0x2a#8 6) := by decide

/-- Base select, unmapped and unbound accesses (V-DEC-6, V-DEC-8, V-DEC-10, V-DEC-12, V-DEC-13, V-DEC-15). -/
theorem test_decode_bus :
    decode 0x388#16 (.ioWrite 0x9a01#16 0x62#8 1) = .ok (.outBaseSelect 0x62#8 1) ∧
    decode 0x000#16 (.ioRead 0x9a01#16 2) = .ok (.inBaseSelect 2) ∧
    decode 0x3fc#16 (.ioRead 0xffff#16 3) = .ok (.inUnmapped 0xff8b#16 3) ∧
    decode 0x388#16 (.ioWrite 0x1b89#16 0x12#8 4) = .ok (.outUnmapped 0x1b89#16 0x12#8 4) ∧
    decode 0x3fc#16 (.ioRead 0x0000#16 5) = .ok (.unbound 0x0000#16 none 5) ∧
    decode 0x388#16 (.ioWrite 0x0400#16 0x12#8 6) = .ok (.unbound 0x0400#16 (some 0x12#8) 6) := by decide

/-- The events of table 30.1 that are no access. -/
theorem test_decode_events :
    decode 0x388#16 (.tick 3) = .ok (.tick 3) ∧
    decode 0x388#16 (.midiIn 0x90#8 4) = .ok (.midiIn 0x90#8 4) ∧
    decode 0x388#16 (.pullPcm 1 [⟨1, 2⟩] 6) = .ok (.pullPcm 1 [⟨1, 2⟩] 6) ∧
    decode 0x388#16 (.pullSynth 1 [⟨3, 4⟩] 7) = .ok (.pullSynth 1 [⟨3, 4⟩] 7) ∧
    decode 0x388#16 (.hostReset 5) = .ok (.hostReset 5) ∧
    decode 0x388#16 (.construct true) = .ok (.construct true) ∧
    decode 0x388#16 (.close 8) = .ok (.close 8) := by decide

/-- What is no event is refused by name. -/
theorem test_decode_errors :
    decode 0x388#16 (.pullPcm 2 [⟨1, 2⟩] 0) = .error (.accumulatorLength 2 1) ∧
    decode 0x388#16 (.pullSynth 0 [⟨1, 2⟩] 0) = .error (.accumulatorLength 0 1) ∧
    HostEvent.ofNumber 0x090000 = .error (.unknownFormat 9) := by decide

/-- Table words: the 16 bits of the table are the port of a read (spec/opcode_table.json). -/
theorem test_table_words :
    decodeTableWord 16 0x0b89 = some (.inIrqStat 0) ∧ decodeTableWord 16 0x138b = some (.inTimer 0x138b#16 0) ∧
    decodeTableWord 16 0x9a01 = some (.inBaseSelect 0) ∧
    decodeTableWord 16 0x1788 = some (.inUnmapped 0x1788#16 0) ∧
    decodeTableWord 16 0x0400 = some (.unbound 0x0400#16 none 0) := by decide

/-- Once CLOSE has unbound the windows, the port of a register is a port in no window (R148, R271); the base-select port
is no window's (R151, R156). -/
theorem test_decode_closed :
    decodeClosed 0x388#16 (.ioRead 0x0b89#16 1) = .ok (.unbound 0x0b89#16 none 1) ∧
    decodeClosed 0x388#16 (.ioWrite 0x0b88#16 0x5a#8 2) = .ok (.unbound 0x0b88#16 (some 0x5a#8) 2) ∧
    decodeClosed 0x388#16 (.ioRead 0x9a01#16 3) = .ok (.inBaseSelect 3) ∧
    decodeClosed 0x388#16 (.ioWrite 0x9a01#16 0x62#8 4) = .ok (.outBaseSelect 0x62#8 4) ∧
    decodeClosed 0x388#16 (.tick 5) = .ok (.tick 5) := by decide

/-- The number of a pull holds both `n` and `t` (log entry 1): 2 ^ 3 * (2 * 5 + 1) = 88. -/
theorem test_pull_number :
    HostEvent.ofNumber (0x58_00_04_0000) = .ok (.pullPcm 3 (zeroAccumulator 3) 5) ∧
    (HostEvent.pullSynth 3 (zeroAccumulator 3) 5).toNumber = 0x58_00_05_0000 := by decide

/-- The pseudo-events of R78, at base 0x384: `outw 0xF388, 0x1234` (P5), `setbase`, `clrint`. -/
theorem test_pseudo_events :
    outw 0xf388#16 0x1234#16 0 = [.ioWrite 0xf388#16 0x34#8 0, .ioWrite 0xf389#16 0x12#8 0] ∧
    setbase 0xe1#8 0 = .ioWrite 0x9a01#16 0xe1#8 0 ∧
    decode 0x384#16 (clrint 0x384#16 0x0c#8 0) = .ok (.outIrqStat 0x0c#8 0) ∧
    decode 0x384#16 (ack 0x384#16 0) = .ok (.outIrqStat 0xff#8 0) := by decide

/-! ## One step: synthesizer, mixer and filter, interrupt registers -/

/-- L1.8, and a read that returns what the synthesizer answers (R101). -/
theorem test_synth_window :
    after (exec (.outSynth 0x388#16 0x01#8 0) start) newCalls = some [.synthWrite 0x388#16 0x01#8] ∧
    after (exec (.inSynth 0x389#16 0)
      { start with env := { start.env with supply := { start.env.supply with synth := [0x06#8, 0x07#8] } } })
      (fun s => (s.env.reply, newCalls s, s.env.supply.synth, s.env.drawn)) =
      some (.byte 0x06#8, [.synthRead 0x389#16], [0x07#8], 1) := by decide

/-- V-REG-1. -/
theorem test_mixer :
    after (exec (.outMixer 0x5a#8 0) start) (fun s => (s.mixer, newCalls s)) = some (0x5a#8, []) ∧
    after (exec (.inMixer 0) { start with mixer := 0x5a#8 }) (·.env.reply) = some (.byte 0x5a#8) := by decide

/-- L1.1 and V-INT-7: the clear-mask write clears the set bits and makes no call. -/
theorem test_clear_mask :
    after (exec (.outIrqStat 0x0c#8 0) { start with irqStat := 0x1c#8, line := true })
      (fun s => (s.irqStat, s.line, newCalls s)) = some (0x10#8, true, []) ∧
    after (exec (.outIrqStat 0xeb#8 0) { start with irqStat := 0x14#8 }) (·.irqStat) = some 0x14#8 := by decide

/-- P1 event 8: a read of the status returns it and clears nothing. -/
theorem test_irq_stat_read :
    after (exec (.inIrqStat 0) { start with irqStat := 0x0c#8 }) (fun s => (s.env.reply, s.irqStat)) =
      some (.byte 0x0c#8, 0x0c#8) := by decide

/-- V-OUT-2 and V-OUT-4: the flush of a filter write is under the old byte; a cursor past `t` stays. -/
theorem test_filter_write :
    after (exec (.outFilter 0x20#8 3) { start with latchL := 0x1000#16 })
      (fun s => (s.bufL.take 4, s.pos, s.filter)) =
      some ([0x1000#16, 0x1000#16, 0x1000#16, 0x0000#16], 3, 0x20#8) ∧
    after (exec (.outFilter 0x00#8 2) { start with pos := 4, latchL := 0x1000#16 })
      (fun s => (s.bufL.getD 2 0#16, s.pos)) = some (0x0000#16, 4) := by decide

/-- V-INT-8: a mask write does not drive the line. -/
theorem test_irq_mask :
    after (exec (.outIrqMask 0x04#8 0) { start with irqStat := 0x04#8 })
      (fun s => (s.irqMask, s.line, newCalls s)) = some (0x04#8, false, []) ∧
    after (exec (.inIrqMask 0) { start with irqMask := 0x08#8 }) (·.env.reply) = some (.byte 0x08#8) ∧
    after (exec (.inFilter 0) { start with filter := 0x20#8 }) (·.env.reply) = some (.byte 0x20#8) := by decide

/-- V-INT-3, V-INT-5 and V-INT-10: a producer drives the line from its own bit alone, on the selected line. -/
theorem test_producer :
    newCalls (({ start with selIrq := 10, irqStat := 0x08#8, irqMask := 0x08#8 } : State).produce 0x04#8 true) =
      [.irqDeassert 0x0400#16] ∧
    newCalls (({ start with selIrq := 10, irqStat := 0x10#8, irqMask := 0x10#8 } : State).produce 0x10#8 false) =
      [.irqAssert 0x0400#16] ∧
    newCalls (({ start with selIrq := 15, irqMask := 0x04#8 } : State).produce 0x04#8 true) =
      [.irqAssert 0x8000#16] := by decide

/-! ## One step: PCM registers, timer window -/

/-- V-REG-5, V-REG-6 and V-OUT-1. -/
theorem test_pcm_data :
    after (exec (.outPcmDataLo 0xcd#8 4)
      { start with pcmData := 0xab00#16, pos := 2, latchL := 0xffff#16, latchR := 0x0001#16 })
      (fun s => (s.pcmData, s.pos, s.bufL.take 5, s.bufR.take 5)) =
      some (0xabcd#16, 4, [0#16, 0#16, 0xffff#16, 0xffff#16, 0#16], [0#16, 0#16, 1#16, 1#16, 0#16]) ∧
    after (exec (.outPcmDataHi 0xab#8 0) { start with pcmData := 0x00cd#16 }) (·.pcmData) = some 0xabcd#16 ∧
    after (exec (.inPcmDataLo 0) { start with pcmData := 0xabcd#16 }) (·.env.reply) = some (.byte 0xff#8) ∧
    after (exec (.inPcmDataHi 0) { start with pcmData := 0xabcd#16 }) (·.env.reply) = some (.byte 0xff#8) := by decide

/-- V-REG-21 and V-REG-23: only the edge of the enable bit resets the toggle. -/
theorem test_pcm_ctrl :
    after (exec (.outPcmCtrl 0x40#8 0) { start with pcmCtrl := 0x40#8, stereoR := true })
      (fun s => (s.pcmCtrl, s.stereoR)) = some (0x40#8, true) ∧
    after (exec (.outPcmCtrl 0x60#8 0) { start with pcmCtrl := 0x20#8, stereoR := true })
      (fun s => (s.pcmCtrl, s.stereoR)) = some (0x60#8, false) ∧
    after (exec (.inPcmCtrl 0) { start with pcmCtrl := 0x60#8 }) (·.env.reply) = some (.byte 0x60#8) := by decide

/-- V-REG-24 and V-REG-25, here with a T1 that the access sets (R56, R114). -/
theorem test_timer_window :
    let s : State := { start with env := { start.env with supply :=
      { start.env.supply with timer := [0x99#8], settings := [⟨true, 3, 2#16, true⟩] } } }
    after (exec (.outTimer 0x138b#16 0x74#8 0) s) (fun s => (newCalls s, s.t1)) =
      some ([.timerWrite 3#16 0x74#8], ⟨true, 2, 2#16, true⟩) ∧
    after (exec (.inTimer 0x1389#16 0) s) (fun s => (newCalls s, s.env.reply, s.t1)) =
      some ([.timerRead 1#16], .byte 0x99#8, ⟨true, 2, 2#16, true⟩) := by decide

/-! ## One step: MIDI -/

/-- The start of the MIDI vectors: line 10, the MIDI bit enabled. -/
def midiStart : State := { start with selIrq := 10, irqMask := 0x10#8 }

/-- L1.2, and V-MIDI-10: a soft reset is not stored; one of the two bits alone is. -/
theorem test_midi_ctrl :
    after (exec (.outMidiCtrl 0xe0#8 0)
      { midiStart with rcur := 3, wcur := 7, rxReady := true, txReady := true, midiCtrl := 0x05#8, irqStat := 0x10#8 })
      (fun s => ((s.rcur, s.wcur, s.rxReady, s.txReady), s.midiCtrl, s.irqStat, newCalls s)) =
      some ((0, 0, false, false), 0x05#8, 0x10#8, [.irqAssert 0x0400#16]) ∧
    after (exec (.outMidiCtrl 0x20#8 0) { midiStart with rcur := 3, wcur := 7, midiCtrl := 0x05#8 })
      (fun s => (s.rcur, s.wcur, s.midiCtrl, newCalls s)) = some (3, 7, 0x20#8, []) ∧
    after (exec (.inMidiCtrl 0) { midiStart with midiCtrl := 0x05#8 }) (·.env.reply) = some (.byte 0x05#8) := by decide

/-- V-MIDI-3 and V-MIDI-4. -/
theorem test_midi_read :
    after (exec (.inMidiData 0) { midiStart with fifo := (midiStart.fifo.set 0 0x90#8).set 1 0x3c#8, wcur := 2 })
      (fun s => (s.env.reply, s.rcur, s.rxReady, newCalls s)) =
      some (.byte 0x90#8, 1, true, [.irqAssert 0x0400#16]) ∧
    after (exec (.inMidiData 0) { midiStart with fifo := midiStart.fifo.set 1 0x3c#8, rcur := 1, wcur := 2 })
      (fun s => (s.env.reply, s.rcur, s.rxReady, newCalls s)) =
      some (.byte 0x3c#8, 2, false, [.irqDeassert 0x0400#16]) := by decide

/-- V-MIDI-6 and V-MIDI-7: the stale slot, and the alias. -/
theorem test_midi_alias :
    after (exec (.inMidiDataAlias 0) { midiStart with fifo := midiStart.fifo.set 0 0x90#8, wcur := 1 })
      (fun s => (s.env.reply, s.rcur, s.valid[0])) = some (.byte 0x90#8, 1, false) ∧
    after (exec (.inMidiDataAlias 0) { midiStart with fifo := midiStart.fifo.set 2 0x77#8, rcur := 2, wcur := 2 })
      (fun s => (s.env.reply, s.rcur, newCalls s)) = some (.byte 0x77#8, 2, []) := by decide

/-- V-MIDI-8 and V-MIDI-9. -/
theorem test_midi_write :
    after (exec (.outMidiData 0xf8#8 0) midiStart) (fun s => (s.txReady, s.irqStat, newCalls s)) =
      some (true, 0x10#8, [.uartSend 0xf8#8, .irqAssert 0x0400#16]) ∧
    after (exec (.outMidiDataAlias 0xf8#8 0) midiStart) (fun s => (s.txReady, s.irqStat, newCalls s)) =
      some (true, 0x10#8, [.uartSend 0xf8#8, .irqAssert 0x0400#16]) := by decide

/-- V-REG-4. -/
theorem test_midi_stat :
    after (exec (.outMidiStat 0x00#8 0) midiStart) (·.midiStat) = some 0xff#8 ∧
    after (exec (.inMidiStat 0) midiStart) (·.env.reply) = some (.byte 0xff#8) := by decide

/-- V-MIDI-1 and V-MIDI-2. -/
theorem test_midi_in :
    after (exec (.midiIn 0x90#8 0) midiStart)
      (fun s => ((s.fifo[0], s.valid[0], s.wcur, s.rxReady), s.irqStat, newCalls s)) =
      some ((0x90#8, true, 1, true), 0x10#8, [.irqAssert 0x0400#16]) ∧
    after (exec (.midiIn 0x90#8 0) { midiStart with midiPassthrough := false })
      (fun s => (s.fifo[0], s.wcur, s.rxReady, newCalls s)) = some (0x00#8, 0, false, []) := by decide

/-! ## One step: configuration, compatibility, board -/

/-- V-REG-7, V-REG-8, and a read back. -/
theorem test_io_conf_2 :
    after (exec (.outIoConf2 0x04#8 0) start) (fun s => (s.ioConf2, s.selDma)) = some (0x04#8, 0) ∧
    after (exec (.outIoConf2 0xf9#8 0) start) (fun s => (s.ioConf2, s.selDma)) = some (0xf9#8, 1) ∧
    after (exec (.inIoConf2 0) { start with ioConf2 := 0xf9#8 }) (·.env.reply) = some (.byte 0xf9#8) := by decide

/-- V-REG-9, V-REG-10. -/
theorem test_io_conf_3 :
    after (exec (.outIoConf3 0x17#8 0) start) (fun s => (s.ioConf3, s.selIrq, newCalls s)) = some (0x17#8, 10, []) ∧
    after (exec (.outIoConf3 0x0b#8 0) start) (·.selIrq) = some 15 ∧
    after (exec (.inIoConf3 0) { start with ioConf3 := 0x17#8 }) (·.env.reply) = some (.byte 0x17#8) := by decide

/-- P5 event 8, and the register beside it. -/
theorem test_io_conf_1_4 :
    after (exec (.outIoConf1 0x34#8 0) start) (fun s => (s.ioConf1, s.ioConf4)) = some (0x34#8, 0x00#8) ∧
    after (exec (.outIoConf4 0x35#8 0) start) (fun s => (s.ioConf1, s.ioConf4)) = some (0x00#8, 0x35#8) ∧
    after (exec (.inIoConf1 0) { start with ioConf1 := 0x34#8 }) (·.env.reply) = some (.byte 0x34#8) ∧
    after (exec (.inIoConf4 0) { start with ioConf4 := 0x35#8 }) (·.env.reply) = some (.byte 0x35#8) := by decide

/-- V-REG-12 and V-REG-14. -/
theorem test_compat :
    after (exec (.outCompat 0x03#8 0) { start with compatBase := 0x23#8 }) newCalls =
      some [.dspSetAddr 0x0230#16, .uartSetAddr 0x0320#16] ∧
    after (exec (.outCompatBase 0x30#8 0) { start with compat := 0x01#8 }) newCalls =
      some [.dspSetAddr 0#16, .uartSetAddr 0x0330#16] ∧
    after (exec (.inCompat 0) { start with compat := 0x03#8 }) (·.env.reply) = some (.byte 0x03#8) ∧
    after (exec (.inCompatBase 0) { start with compatBase := 0x23#8 }) (·.env.reply) = some (.byte 0x23#8) := by decide

/-- V-REG-16. -/
theorem test_sb_irqdma :
    after (exec (.outSbIrqDma 0x2a#8 0) start) (fun s => (s.sbIrqDma, newCalls s)) =
      some (0x2a#8, [.dspSetIrqDma 0x2a#8]) ∧
    after (exec (.inSbIrqDma 0) { start with sbIrqDma := 0x2a#8 }) (·.env.reply) = some (.byte 0x2a#8) := by decide

/-- L1.9 and V-REG-18: the edge of bit 7 resets and then stores; no edge only stores. -/
theorem test_sys_conf_1 :
    after (exec (.outSysConf1 0x80#8 0) { start with irqStat := 0x10#8, txReady := true })
      (fun s => (s.sysConf1, s.irqStat, s.txReady, newCalls s)) =
      some (0x80#8, 0x00#8, false,
        [.irqDeassert 0x0001#16, .dspSetAddr 0#16, .uartSetAddr 0#16, .dspSetIrqDma 0x00#8]) ∧
    after (exec (.outSysConf1 0x80#8 0) { start with sysConf1 := 0x80#8, irqStat := 0x10#8 })
      (fun s => (s.sysConf1, s.irqStat, newCalls s)) = some (0x80#8, 0x10#8, []) := by decide

/-- The other system-config bytes go each to its own register (R117-R122). -/
theorem test_sys_conf_writes :
    let regs (s : State) := [s.sysConf1, s.sysConf2, s.sysConf3, s.sysConf4]
    after (exec (.outSysConf2 0x12#8 0) start) regs = some [0#8, 0x12#8, 0#8, 0#8] ∧
    after (exec (.outSysConf3 0x13#8 0) start) regs = some [0#8, 0#8, 0x13#8, 0#8] ∧
    after (exec (.outSysConf4 0x14#8 0) start) regs = some [0#8, 0#8, 0#8, 0x14#8] := by decide

/-- Each is read from its own register (R115-R121). -/
theorem test_sys_conf_reads :
    let s : State := { start with sysConf1 := 0x11#8, sysConf2 := 0x12#8, sysConf3 := 0x13#8, sysConf4 := 0x14#8 }
    after (exec (.inSysConf1 0) s) (·.env.reply) = some (.byte 0x11#8) ∧
    after (exec (.inSysConf2 0) s) (·.env.reply) = some (.byte 0x12#8) ∧
    after (exec (.inSysConf3 0) s) (·.env.reply) = some (.byte 0x13#8) ∧
    after (exec (.inSysConf4 0) s) (·.env.reply) = some (.byte 0x14#8) := by decide

/-- V-REG-2 and V-REG-3. -/
theorem test_board_constants :
    after (exec (.outBoardRev 0x55#8 0) start) (fun s => decide (s = start)) = some true ∧
    after (exec (.inBoardRev 0) start) (·.env.reply) = some (.byte 0x00#8) ∧
    after (exec (.outBoardId 0x00#8 0) start) (fun s => decide (s = start)) = some true ∧
    after (exec (.inBoardId 0) start) (·.env.reply) = some (.byte 0x04#8) := by decide

/-- V-REG-26. -/
theorem test_wait_scsi :
    after (exec (.outWait 0x01#8 0) start) (fun s => (s.wait, s.scsi, newCalls s)) = some (0x01#8, 0x00#8, []) ∧
    after (exec (.outScsi 0x03#8 0) start) (fun s => (s.wait, s.scsi, newCalls s)) = some (0x00#8, 0x03#8, []) ∧
    after (exec (.inWait 0) { start with wait := 0x01#8, scsi := 0x03#8 }) (·.env.reply) = some (.byte 0x01#8) ∧
    after (exec (.inScsi 0) { start with wait := 0x01#8, scsi := 0x03#8 }) (·.env.reply) = some (.byte 0x03#8) := by
  decide

/-! ## One step: base select, unmapped and unbound accesses -/

/-- V-REL-1 and V-REL-3. -/
theorem test_base_select :
    after (exec (.outBaseSelect 0xe1#8 0) start) (fun s => (s.base, newCalls s)) = some (0x384#16, []) ∧
    after (exec (.outBaseSelect 0xff#8 0) start) (·.base) = some 0x3fc#16 := by decide

/-- V-DEC-10, V-DEC-11, V-DEC-12, V-DEC-14: they read 0xFF, and a write changes nothing. -/
theorem test_no_register :
    after (exec (.inUnmapped 0xf8b#16 0) start) (·.env.reply) = some (.byte 0xff#8) ∧
    after (exec (.outUnmapped 0x1b89#16 0x12#8 0) start) (fun s => decide (s = start)) = some true ∧
    after (exec (.unbound 0x0400#16 none 0) start) (·.env.reply) = some (.byte 0xff#8) ∧
    after (exec (.inBaseSelect 0) start) (·.env.reply) = some (.byte 0xff#8) := by decide

/-- L1.6: after the relocation the old port reads 0xFF and the new one reaches the same register. -/
theorem test_relocated_step :
    let s : State := { start with base := 0x384#16, irqStat := 0x04#8 }
    after (step (s.offer (.ioRead 0x0b89#16 0))) (·.env.reply) = some (.byte 0xff#8) ∧
    after (step (s.offer (.ioRead 0x0b85#16 0))) (·.env.reply) = some (.byte 0x04#8) := by decide

/-! ## One step: the sampler -/

/-- The start of L1.7: 16-bit stereo, the countdown at 2 of 2 in repeat mode, four bytes ready. -/
def samplerStart : State :=
  { start with
    sysConf2 := 0x04#8, pcmCtrl := 0x40#8, t1 := ⟨true, 2, 2#16, true⟩
    env := { start.env with supply := { start.env.supply with dma := [0x12#8, 0x34#8, 0x56#8, 0x78#8] } } }

/-- V-PCM-1a, V-PCM-1c, V-PCM-1f, V-PCM-2b, V-PCM-2d, V-PCM-3b, V-PCM-3e: assembly. -/
theorem test_assembly :
    s16 (sample8 0x00#8) = -32768 ∧ s16 (sample8 0x80#8) = 0 ∧ s16 (sample8 0xff#8) = 32512 ∧
    msbInvert 0x10#8 (sample8 0x00#8) = 0x0000#16 ∧ msbInvert 0x10#8 (sample8 0xc0#8) = 0xc000#16 ∧
    s16 (msbInvert 0x14#8 (sample16 0x12#8 0x34#8)) = -28108 ∧
    msbInvert 0x14#8 (sample16 0xff#8 0xff#8) = 0x7fff#16 := by decide

/-- L1.7's first tick: the left latch, the toggle flipped, the reload, both bits set, a read of channel 4 twice. -/
theorem test_stereo_tick :
    after (exec (.tick 0) samplerStart)
      (fun s => ((s.latchL, s.latchR, s.stereoR, s.t1.count), s.irqStat, newCalls s)) =
      some ((0x1234#16, 0x0000#16, true, 2), 0x0c#8,
        [.irqDeassert 0x0001#16, .dmaRead 4, .dmaRead 4, .irqDeassert 0x0001#16]) := by decide

/-- V-PCM-9's first tick, V-PCM-12, V-PCM-14: one-shot stop, the period 0, the two producers of an underflowing tick. -/
theorem test_underflow_tick :
    after (exec (.tick 0) { samplerStart with t1 := ⟨true, 2, 2#16, false⟩ }) (fun s => (s.latchL, s.t1)) =
      some (0x1234#16, ⟨false, -1, 2#16, false⟩) ∧
    after (exec (.tick 0) { start with t1 := ⟨true, 1, 0#16, true⟩, irqMask := 0x08#8, selIrq := 10 })
      (fun s => (s.t1.count, newCalls s)) = some (65536, [.irqDeassert 0x0400#16, .irqAssert 0x0400#16]) := by decide

/-! ## One step: pulls, lifecycle -/

/-- V-OUT-5, with the DSP's zeros. -/
theorem test_pull_pcm :
    after (exec (.pullPcm 2 [⟨0, 0⟩, ⟨0, 0⟩] 2)
      { start with
        latchL := 0x1234#16, latchR := 0x5678#16
        env := { start.env with supply := { start.env.supply with dspFrames := [⟨0, 0⟩, ⟨0, 0⟩] } } })
      (fun s => (s.env.reply, s.pos, newCalls s)) =
      some (.frames [⟨2330, 11068⟩, ⟨2330, 11068⟩], 0, [.dspMix 2, .dspBufReset]) := by decide

/-- V-OUT-6 and V-OUT-7. -/
theorem test_pull_synth :
    after (exec (.pullPcm 0 [] 0) { start with pos := 3 }) (fun s => (s.env.reply, s.pos, newCalls s)) =
      some (.frames [], 0, [.dspMix 0, .dspBufReset]) ∧
    after (exec (.pullSynth 1 [⟨1, -1⟩] 0)
      { start with env := { start.env with supply := { start.env.supply with synthFrames := [⟨7, 7⟩] } } })
      (fun s => (s.env.reply, s.pos, newCalls s)) = some (.frames [⟨8, 6⟩], 0, [.synthPull 1, .synthBufReset]) := by
  decide

/-- A pull's `t` is checked as any step's (R14, R276). -/
theorem test_pull_time :
    exec (.pullPcm 0 [] 9) start = .refused .cursorOutOfRange ∧
    exec (.pullSynth 0 [] 2) { start with env := { start.env with cursor := 3 } } = .refused .cursorDecreased :=
  ⟨rfl, rfl⟩

/-- The attenuation values listed under V-OUT. -/
theorem test_atten : Config.atten (-32768) = -16384 ∧ Config.atten (-1) = 0 ∧ Config.atten 1 = 0 ∧
    Config.atten 3 = 1 ∧ Config.atten (-3) = -1 ∧ Config.atten 32767 = 16383 := by decide

/-- The start of V-RST-1. -/
def resetStart : State :=
  { start with
    ioConf3 := 0x07#8, selIrq := 10, irqStat := 0x1c#8, compat := 0x03#8, base := 0x384#16, stereoR := true
    pos := 3, latchL := 0x1000#16, line := true }

/-- V-RST-1. -/
theorem test_host_reset :
    after (exec (.hostReset 5) resetStart) (fun s => (s.selIrq, s.irqStat, s.compat)) = some (0, 0x00#8, 0x00#8) ∧
    after (exec (.hostReset 5) resetStart) (fun s => (s.base, s.stereoR, s.pos, s.line)) =
      some (0x384#16, true, 5, false) ∧
    after (exec (.hostReset 5) resetStart) (fun s => (s.bufL.take 6, newCalls s)) =
      some ([0#16, 0#16, 0#16, 0x1000#16, 0x1000#16, 0#16],
        [.irqDeassert 0x0400#16, .dspSetAddr 0#16, .uartSetAddr 0#16, .dspSetIrqDma 0x00#8]) := by decide

/-- CONSTRUCT(1) from a used block gives the common start state, here with passthrough (R270, table 10.1). -/
theorem test_construct :
    after (exec (.construct true) { midiStart with base := 0x384#16, mixer := 0x5a#8, pos := 3, stereoR := true })
      (fun s => decide (s = start)) = some true := by decide

/-- CLOSE, and no step after it (R271, R276): an access of a former window port is then one of a port in no window. -/
theorem test_close :
    after (exec (.close 0) start) (·.closed) = some true ∧
    after (exec (.tick 0) { start with closed := true }) (·.closed) = none ∧
    after (step ({ start with closed := true, irqStat := 0x04#8 }.offer (.ioRead 0x0b89#16 0))) (·.env.reply) =
      some (.byte 0xff#8) ∧
    after (step ({ start with closed := true }.offer (.ioWrite 0x0b88#16 0x5a#8 0))) (·.mixer) = some 0x00#8 := by decide

/-! ## Witnesses: a state and operands that meet all hypotheses of a statement together

`mid` is admitted from its cursor 2, the lower end, to `BUFLEN` = 8, the upper end. -/

/-- The start state in the middle of a period. -/
def mid : State := { start with env := { start.env with cursor := 2 } }

theorem test_witness_DecodeOfEncodeIsInstruction :
    (legalBase 0x000#16 = true ∧ WellFormed 0x000#16 (.inSynth 0x38b#16 0) = true) ∧
    (legalBase 0x3fc#16 = true ∧ WellFormed 0x3fc#16 (.outUnmapped 0xff8b#16 0x12#8 8) = true) ∧
    (legalBase 0x3fc#16 = true ∧ WellFormed 0x3fc#16 (.unbound 0x0000#16 none 0) = true) := by decide

theorem test_witness_EncodeOfDecodeIsEvent :
    (legalBase 0x000#16 = true ∧ decode 0x000#16 (.ioWrite 0x0801#16 0x0c#8 0) = .ok (.outIrqStat 0x0c#8 0)) ∧
    (legalBase 0x3fc#16 = true ∧ decode 0x3fc#16 (.ioRead 0xffff#16 8) = .ok (.inUnmapped 0xff8b#16 8)) ∧
    (legalBase 0x388#16 = true ∧ decode 0x388#16 (.pullPcm 1 [⟨1, 2⟩] 0) = .ok (.pullPcm 1 [⟨1, 2⟩] 0)) ∧
    (legalBase 0x3fc#16 = true ∧ decodeClosed 0x3fc#16 (.ioRead 0xffff#16 8) = .ok (.unbound 0xffff#16 none 8)) := by
  decide

theorem test_witness_NumberedEventsReadBack :
    (∀ n acc t, HostEvent.ioWrite 0x0b88#16 0x5a#8 3 = .pullPcm n acc t ∨
      HostEvent.ioWrite 0x0b88#16 0x5a#8 3 = .pullSynth n acc t → acc = zeroAccumulator n) ∧
    (∀ n acc t, HostEvent.pullPcm 2 (zeroAccumulator 2) 8 = .pullPcm n acc t ∨
      HostEvent.pullPcm 2 (zeroAccumulator 2) 8 = .pullSynth n acc t → acc = zeroAccumulator n) ∧
    (∀ n acc t, HostEvent.pullSynth 0 [] 0 = .pullPcm n acc t ∨ HostEvent.pullSynth 0 [] 0 = .pullSynth n acc t →
      acc = zeroAccumulator n) := by
  refine ⟨?_, ?_, ?_⟩ <;> simp [zeroAccumulator]

theorem test_witness_StepRunsDecodedInstruction :
    ((start.offer (.ioRead 0x0b89#16 0)).env.inputs = .ioRead 0x0b89#16 0 :: [] ∧
      (start.offer (.ioRead 0x0b89#16 0)).decode (.ioRead 0x0b89#16 0) = .ok (.inIrqStat 0)) ∧
    (let s : State := { start with closed := true }.offer (.ioRead 0x0b89#16 0)
     s.env.inputs = .ioRead 0x0b89#16 0 :: [] ∧ s.decode (.ioRead 0x0b89#16 0) = .ok (.unbound 0x0b89#16 none 0)) ∧
    start.closed = false ∧ start.env.inputs = [] := by decide

theorem test_witness_FetchWordRunsNext :
    (start.closed = false ∧ decodeTableWord 16 0x0b89 = some (.inIrqStat 0) ∧ legalBase start.base = true ∧
      WellFormed start.base (.inIrqStat 0) = true) ∧
    (let s : State := { start with base := 0x3fc#16 }
     s.closed = false ∧ decodeTableWord 16 0xff8b = some (.inUnmapped 0xff8b#16 0) ∧ legalBase s.base = true ∧
      WellFormed s.base (.inUnmapped 0xff8b#16 0) = true) ∧
    (let s : State := { start with base := 0x384#16 }
     s.closed = false ∧ decodeTableWord 16 0x0b87 = some (.unbound 0x0b87#16 none 0) ∧
      WellFormed s.base (.unbound 0x0b87#16 none 0) = false) := by decide

theorem test_witness_RelocatedPortReachesSameRegister :
    (legalBase 0x000#16 = true ∧ legalBase 0x3fc#16 = true ∧ windowOffset 0x388#16 = true) ∧
    (legalBase 0x388#16 = true ∧ legalBase 0x384#16 = true ∧ windowOffset 0xff8b#16 = true) := by decide

theorem test_witness_BaseSelectPortIsNeverBound : legalBase 0x000#16 = true ∧ legalBase 0x3fc#16 = true := by decide

theorem test_witness_WideAccessIsLowByteFirst : 0x1234 < 2 ^ (8 * 2) ∧ 0xffff < 2 ^ (8 * 2) ∧ 0 < 2 ^ (8 * 0) := by
  decide

theorem test_witness_AdmittedStepsComplete :
    (∃ s', exec (.outMixer 0x5a#8 8) mid = .next s') ∧ HostDuties mid (.outMixer 0x5a#8 8) ∧
    HostDuties mid (.outMixer 0x5a#8 2) := by
  exact ⟨⟨_, rfl⟩, by decide, by decide⟩

theorem test_witness_RefusalNamesTheBrokenDuty :
    (reachesBlock (.tick 2) = true ∧ ({ mid with closed := true } : State).closed = true) ∧
    (timeOf (.tick 9) = some 9 ∧ mid.closed = false ∧ mid.bufLen < 9) ∧
    (timeOf (.tick 1) = some 1 ∧ mid.closed = false ∧ 1 ≤ mid.bufLen ∧ 1 < mid.env.cursor) ∧
    (framesOf (.pullPcm 9 [] 2) = some 9 ∧ timeOf (.pullPcm 9 [] 2) = some 2 ∧ Admitted mid 2 ∧ mid.bufLen < 9) ∧
    (framesOf (.pullSynth 9 [] 8) = some 9 ∧ timeOf (.pullSynth 9 [] 8) = some 8 ∧ Admitted mid 8 ∧ mid.bufLen < 9) := by
  decide

theorem test_witness_MixerAndIoConf4WritesStore : Admitted mid 2 ∧ Admitted mid 8 := by decide

theorem test_witness_PlainWritesStoreTheByte : Admitted mid 2 ∧ Admitted mid 8 := by decide

theorem test_witness_IrqStatReadClearsNothing : Admitted mid 2 ∧ Admitted mid 8 := by decide

theorem test_witness_PlainReadsReturnTheStoredByte : Admitted mid 2 ∧ Admitted mid 8 := by decide

theorem test_witness_ConstantsReadAndIgnoreWrites : Admitted mid 2 ∧ Admitted mid 8 := by decide

theorem test_witness_UnmappedAccessesFloatAndIgnore : Admitted mid 2 ∧ Admitted mid 8 := by decide

theorem test_witness_PlainRegistersReadBack :
    ∃ s', exec (.outFilter 0x20#8 2) mid = .next s' ∧ 2 ≤ 8 ∧ 8 ≤ mid.bufLen := ⟨_, rfl, by decide, by decide⟩

theorem test_witness_IoConf2SelectsChannelByLowBits : Admitted mid 2 ∧ Admitted mid 8 := by decide

theorem test_witness_IoConf3SelectsLineByLowBits : Admitted mid 2 ∧ Admitted mid 8 := by decide

theorem test_witness_CompatWritesPushBothAddresses : Admitted mid 2 ∧ Admitted mid 8 := by decide

theorem test_witness_SbIrqDmaByteIsForwarded : Admitted mid 2 ∧ Admitted mid 8 := by decide

theorem test_witness_SynthWritesReachSynthInOrder : Admitted mid 2 ∧ 2 ≤ 8 ∧ 8 ≤ mid.bufLen := by decide

theorem test_witness_WindowReadsReturnTheAnswer :
    (Admitted mid 2 ∧ mid.env.supply.synth = [] ∧ mid.env.supply.timer = [] ∧ mid.env.supply.settings = []) ∧
    (let s : State := { mid with env := { mid.env with supply :=
      { mid.env.supply with synth := [0x06#8], timer := [0x07#8], settings := [⟨false, 0, 1#16, false⟩] } } }
     Admitted s 8 ∧ s.env.supply.synth = 0x06#8 :: [] ∧ s.env.supply.timer = 0x07#8 :: [] ∧
      s.env.supply.settings = ⟨false, 0, 1#16, false⟩ :: []) := by decide

theorem test_witness_TimerWriteSetsOnlyTheCountdown :
    Admitted mid 2 ∧
    (let s : State := { mid with env := { mid.env with supply :=
      { mid.env.supply with settings := [⟨true, 65537, 0#16, true⟩] } } }
     Admitted s 8 ∧ s.env.supply.settings = ⟨true, 65537, 0#16, true⟩ :: []) := by decide

theorem test_witness_FilterWriteFlushesUnderOldByte : Admitted mid 2 ∧ Admitted mid 8 := by decide

theorem test_witness_PcmDataWritesFlushThenStore : Admitted mid 2 ∧ Admitted mid 8 := by decide

theorem test_witness_PcmCtrlWriteResetsToggleOnEdge :
    Admitted { mid with pcmCtrl := 0x20#8, stereoR := true } 2 ∧ Admitted { mid with pcmCtrl := 0x40#8 } 8 := by decide

theorem test_witness_BaseChangesOnlyByBaseSelect :
    Admitted mid 2 ∧ ∃ s', exec (.outMixer 0x5a#8 8) mid = .next s' ∧
      (∀ v t, Instr.outMixer 0x5a#8 8 ≠ .outBaseSelect v t) ∧ (∀ p, Instr.outMixer 0x5a#8 8 ≠ .construct p) ∧
      legalBase mid.base = true := by
  exact ⟨by decide, _, rfl, by simp, by simp, by decide⟩

theorem test_witness_ClearMaskWriteClearsSetBits :
    Admitted { mid with irqStat := 0x1c#8 } 2 ∧ Admitted { mid with irqStat := 0x1c#8 } 8 := by decide

theorem test_witness_ProducerDrivesFromItsOwnBit :
    ∀ bit : Byte, bit = 0x04#8 ∨ bit = 0x08#8 ∨ bit = 0x10#8 →
      bit ∈ [Config.params.intSamp, Config.params.intPcm, Config.params.intMidi] := by
  rintro _ (rfl | rfl | rfl) <;> decide

theorem test_witness_StatusBitsClearedOnlyByClearMaskOrReset :
    let s : State := { mid with irqStat := 0x1c#8 }
    ∃ s', exec (.outIrqStat 0x04#8 2) s = .next s' ∧ s.irqStat.getLsbD 2 = true ∧ s'.irqStat.getLsbD 2 = false := by
  exact ⟨_, rfl, by decide, by decide⟩

/-- The hypotheses of LineDrivenOnlyByProducersAndReset on the instruction and the state. -/
def DrivesNoLine (s : State) (i : Instr) : Prop :=
  (∀ t, i ≠ .tick t) ∧ (∀ v t, i ≠ .outMidiData v t) ∧ (∀ v t, i ≠ .outMidiDataAlias v t) ∧
    (∀ t, i = .inMidiData t ∨ i = .inMidiDataAlias t → s.rcur = s.wcur) ∧
    (∀ v t, i = .outMidiCtrl v t → ¬(v.getLsbD 5 = true ∧ v.getLsbD 6 = true)) ∧
    (∀ b t, i = .midiIn b t → s.midiPassthrough = false) ∧ (∀ t, i ≠ .hostReset t) ∧
    (∀ v t, i = .outSysConf1 v t → ¬(v.getLsbD 7 = true ∧ s.sysConf1.getLsbD 7 = false)) ∧ ∀ p, i ≠ .construct p

theorem test_witness_LineDrivenOnlyByProducersAndReset :
    (∃ s', exec (.outIrqMask 0x04#8 2) mid = .next s' ∧ DrivesNoLine mid (.outIrqMask 0x04#8 2)) ∧
    (∃ s', exec (.inMidiData 2) mid = .next s' ∧ DrivesNoLine mid (.inMidiData 2)) ∧
    (∃ s', exec (.outMidiCtrl 0x20#8 2) mid = .next s' ∧ DrivesNoLine mid (.outMidiCtrl 0x20#8 2)) ∧
    (∃ s', exec (.midiIn 0x90#8 2) { mid with midiPassthrough := false } = .next s' ∧
      DrivesNoLine { mid with midiPassthrough := false } (.midiIn 0x90#8 2)) ∧
    ∃ s', exec (.outSysConf1 0xff#8 8) { mid with sysConf1 := 0x80#8 } = .next s' ∧
      DrivesNoLine { mid with sysConf1 := 0x80#8 } (.outSysConf1 0xff#8 8) := by
  refine ⟨⟨_, rfl, ?_⟩, ⟨_, rfl, ?_⟩, ⟨_, rfl, ?_⟩, ⟨_, rfl, ?_⟩, ⟨_, rfl, ?_⟩⟩ <;>
    simp [DrivesNoLine, mid, start, State.atConstruction]

theorem test_witness_MidiCtrlWriteStoresOrSoftResets :
    Admitted mid 2 ∧ ((0x60#8).getLsbD 5 = true ∧ (0x60#8).getLsbD 6 = true) ∧
    Admitted mid 8 ∧ ¬((0x9f#8).getLsbD 5 = true ∧ (0x9f#8).getLsbD 6 = true) ∧
    ¬((0x40#8).getLsbD 5 = true ∧ (0x40#8).getLsbD 6 = true) := by decide

theorem test_witness_MidiDataWriteSends : Admitted mid 2 ∧ Admitted mid 8 := by decide

theorem test_witness_MidiDataReadPopsOrReturnsStale :
    (let s : State := { mid with rcur := 15, wcur := 0 }
     Admitted s 2 ∧ Instr.inMidiData 2 ∈ ([.inMidiData 2, .inMidiDataAlias 2] : List Instr) ∧ s.rcur ≠ s.wcur) ∧
    (Admitted mid 8 ∧ Instr.inMidiDataAlias 8 ∈ ([.inMidiData 8, .inMidiDataAlias 8] : List Instr) ∧
      mid.rcur = mid.wcur) := by decide

theorem test_witness_IncomingMidiByteIsPushed :
    (Admitted mid 2 ∧ mid.midiPassthrough = true) ∧
    (let s : State := { mid with midiPassthrough := false }
     Admitted s 8 ∧ s.midiPassthrough = false) := by decide

theorem test_witness_PushesWrapModulo16 :
    AdmittedRun mid ((List.replicate 8 (0x90#8, 2) ++ List.replicate 8 (0x3c#8, 8)).map Prod.snd) ∧
    mid.midiPassthrough = true ∧ mid.rcur = mid.wcur ∧
    (List.replicate 8 (0x90#8, 2) ++ List.replicate 8 (0x3c#8, 8) : List (Byte × Nat)).length = 16 ∧
    AdmittedRun mid (([] : List (Byte × Nat)).map Prod.snd) := by decide

/-- The instruction and the state meet the hypotheses of the frame clause of FifoReturnsBytesInOrder. -/
def LeavesFifo (s : State) (i : Instr) : Prop :=
  (∀ b t, i = .midiIn b t → s.midiPassthrough = false) ∧ (∀ t, i ≠ .inMidiData t) ∧ (∀ t, i ≠ .inMidiDataAlias t) ∧
    (∀ v t, i = .outMidiCtrl v t → ¬(v.getLsbD 5 = true ∧ v.getLsbD 6 = true)) ∧ (∀ t, i ≠ .hostReset t) ∧
    (∀ v t, i = .outSysConf1 v t → ¬(v.getLsbD 7 = true ∧ s.sysConf1.getLsbD 7 = false)) ∧ ∀ p, i ≠ .construct p

/-- `mid` with 14 unread bytes around the end of the ring: one more still fits. -/
def nearlyFull : State := { mid with fifo := midiStart.fifo.set 15 0x3c#8, rcur := 15, wcur := 13 }

theorem test_witness_FifoReturnsBytesInOrder :
    (Admitted nearlyFull 2 ∧ nearlyFull.midiPassthrough = true ∧ nearlyFull.unread.length < 15) ∧
    (Admitted nearlyFull 8 ∧ nearlyFull.unread = 0x3c#8 :: nearlyFull.unread.drop 1 ∧
      Instr.inMidiDataAlias 8 ∈ ([.inMidiData 8, .inMidiDataAlias 8] : List Instr)) ∧
    (AdmittedRun nearlyFull ([(0x90#8, 2)].map Prod.snd ++ List.replicate 15 8) ∧
      nearlyFull.unread.length + 1 ≤ 15 ∧ (List.replicate 15 8 : List Nat) ≠ [] ∧
      (nearlyFull.unread ++ [0x90#8])[(List.replicate 15 8).length - 1]? = some 0x90#8) := by decide

theorem test_witness_FifoReturnsBytesInOrder_frame :
    (∃ s', exec (.midiIn 0x90#8 2) { nearlyFull with midiPassthrough := false } = .next s' ∧
      LeavesFifo { nearlyFull with midiPassthrough := false } (.midiIn 0x90#8 2)) ∧
    ∃ s', exec (.outMidiCtrl 0x20#8 8) nearlyFull = .next s' ∧ LeavesFifo nearlyFull (.outMidiCtrl 0x20#8 8) := by
  refine ⟨⟨_, rfl, ?_⟩, ⟨_, rfl, ?_⟩⟩ <;> simp [LeavesFifo]

theorem test_witness_UnreadSlotsStayValid :
    let s : State := { mid with valid := mid.valid.set 15 true, rcur := 15, wcur := 0 }.offer (.ioRead 0x178a#16 2)
    UnreadSlotsValid s ∧ ∃ s', step s = .next s' := by
  exact ⟨by decide, _, rfl⟩

theorem test_witness_SamplesAreAssembledFromDmaBytes :
    start.sysConf2 &&& Config.params.sc2Wide = 0#8 ∧ samplerStart.sysConf2 &&& Config.params.sc2Wide ≠ 0#8 := by decide

theorem test_witness_TickWithCountdownStoppedOnlyFlushes : Admitted mid 2 ∧ Admitted mid 8 ∧ mid.t1.en = false := by
  decide

theorem test_witness_TickSamplesAndCountsDown :
    (Admitted samplerStart 0 ∧ samplerStart.t1.en = true ∧ samplerStart.t1.count - 2 ≤ 0) ∧
    (let s : State := { samplerStart with t1 := ⟨true, 3, 3#16, true⟩ }
     Admitted s 8 ∧ s.t1.en = true ∧ 0 < s.t1.count - 2) := by decide

theorem test_witness_UnderflowCadenceIsCeilOfPeriod :
    (AdmittedRun samplerStart [0, 3, 3, 8] ∧ samplerStart.t1.en = true ∧ samplerStart.t1.repeats = true ∧
      samplerStart.t1.count = ((2 : Nat) : Int) ∧ samplerStart.t1.period = 2#16) ∧
    (let s : State := { start with t1 := ⟨true, 65536, 0#16, true⟩ }
     AdmittedRun s [] ∧ s.t1.en = true ∧ s.t1.repeats = true ∧ s.t1.count = ((65536 : Nat) : Int) ∧
      s.t1.period = 0#16) := by decide

theorem test_witness_FirstStereoSampleLandsLeft :
    let s : State := { samplerStart with pcmCtrl := 0x20#8, stereoR := true }
    Admitted s 0 ∧ 0 ≤ 8 ∧ 8 ≤ s.bufLen ∧ s.t1.en = true ∧ (0x40#8).getLsbD 6 = true ∧ (0x40#8).getLsbD 5 = false ∧
      s.pcmCtrl.getLsbD 6 = false := by decide

theorem test_witness_StereoToggleChangesOnlyBySampleOrEdge :
    (∃ s', exec (.tick 0) samplerStart = .next s' ∧ s'.stereoR ≠ samplerStart.stereoR) ∧
    ∃ s', exec (.outPcmCtrl 0x40#8 8) { mid with stereoR := true } = .next s' ∧
      s'.stereoR ≠ ({ mid with stereoR := true } : State).stereoR := by
  exact ⟨⟨_, rfl, by decide⟩, _, rfl, by decide⟩

theorem test_witness_ChannelChangesOnlyByIoConf2OrReset :
    (∃ s', exec (.outIoConf2 0x04#8 2) mid = .next s' ∧ s'.selDma ≠ mid.selDma ∧
      mid.selDma = dmaChannel mid.ioConf2) ∧
    (∃ s', exec (.outIoConf3 0x0f#8 8) { mid with ioConf3 := 0x0b#8, selIrq := 15 } = .next s' ∧ s'.selIrq ≠ 15 ∧
      (15 : Fin 16) = irqLine 0x0b#8) ∧
    ∃ s', exec (.construct true) { mid with ioConf3 := 0x0b#8, selIrq := 15, ioConf2 := 0x04#8, selDma := 0 } =
      .next s' ∧ s'.selIrq ≠ 15 ∧ s'.selDma ≠ 0 := by
  exact ⟨⟨_, rfl, by decide, by decide⟩, ⟨_, rfl, by decide, by decide⟩, _, rfl, by decide, by decide⟩

/-- The hypotheses of OnlyFlushingStepsTouchTheBuffer on the instruction and the state. -/
def FlushesNothing (s : State) (i : Instr) : Prop :=
  (∀ v t, i ≠ .outFilter v t) ∧ (∀ v t, i ≠ .outPcmDataLo v t) ∧ (∀ v t, i ≠ .outPcmDataHi v t) ∧
    (∀ t, i ≠ .tick t) ∧ (∀ t, i ≠ .hostReset t) ∧
    (∀ v t, i = .outSysConf1 v t → ¬(v.getLsbD 7 = true ∧ s.sysConf1.getLsbD 7 = false)) ∧
    (∀ n acc t, i ≠ .pullPcm n acc t) ∧ ∀ p, i ≠ .construct p

theorem test_witness_OnlyFlushingStepsTouchTheBuffer :
    (∃ s', exec (.outPcmCtrl 0x40#8 8) mid = .next s' ∧ FlushesNothing mid (.outPcmCtrl 0x40#8 8)) ∧
    ∃ s', exec (.outSysConf1 0x7f#8 8) mid = .next s' ∧ FlushesNothing mid (.outSysConf1 0x7f#8 8) := by
  refine ⟨⟨_, rfl, ?_⟩, ⟨_, rfl, ?_⟩⟩ <;> simp [FlushesNothing]

theorem test_witness_PcmPullMixesFlushedFrames :
    (PullAdmitted mid 0 2 ∧ ([] : List Frame).length = 0 ∧ mid.bufL.length = mid.bufLen ∧ mid.bufR.length = mid.bufLen) ∧
    (PullAdmitted mid 8 8 ∧ (zeroAccumulator 8).length = 8 ∧ mid.bufL.length = mid.bufLen ∧
      mid.bufR.length = mid.bufLen) := by decide

theorem test_witness_AttenuationHalvesTowardZero :
    (0 : Int) ≤ 3 ∧ (-3 : Int) ≤ 0 ∧ Config.atten 0 = 0 / 2 ∧ Config.atten 0 = -(-0 / 2) := by decide

theorem test_witness_SynthPullAddsFramesUnchanged :
    (PullAdmitted mid 0 2 ∧ ([] : List Frame).length = 0) ∧ PullAdmitted mid 8 8 ∧ (zeroAccumulator 8).length = 8 := by
  decide

theorem test_witness_ResetClearsMidiAndDeasserts :
    (Admitted mid 2 ∧ (Instr.hostReset 2 = .hostReset 2 ∨ ∃ v, Instr.hostReset 2 = .outSysConf1 v 2 ∧
      v.getLsbD 7 = true ∧ mid.sysConf1.getLsbD 7 = false)) ∧
    (Admitted mid 8 ∧ (Instr.outSysConf1 0x80#8 8 = .hostReset 8 ∨ ∃ v, Instr.outSysConf1 0x80#8 8 = .outSysConf1 v 8 ∧
      v.getLsbD 7 = true ∧ mid.sysConf1.getLsbD 7 = false)) := by
  exact ⟨⟨by decide, .inl rfl⟩, by decide, .inr ⟨_, rfl, by decide, by decide⟩⟩

theorem test_witness_DeviceResetRestoresConstructionValues :
    Admitted mid 2 ∧ ((0x80#8).getLsbD 7 = true ∧ mid.sysConf1.getLsbD 7 = false) ∧
    ¬((0x7f#8).getLsbD 7 = true ∧ mid.sysConf1.getLsbD 7 = false) ∧
    (let s : State := { mid with sysConf1 := 0x80#8 }
     Admitted s 8 ∧ ¬((0xff#8).getLsbD 7 = true ∧ s.sysConf1.getLsbD 7 = false)) := by decide

theorem test_witness_ConstructMakesAFreshBlock : mid.closed = false := by decide

theorem test_witness_NoStepFollowsClose :
    Admitted mid 2 ∧ Admitted mid 8 ∧ reachesBlock (.construct true) = true ∧ (0x0b89#16 : Port) ≠ 0x9a01#16 := by decide

/-- The invariant holds after a push, in the middle of a period, before a tick: a state that is not the reset state. -/
theorem test_witness_EveryStepKeepsTheInvariant :
    let s : State := { mid with valid := mid.valid.set 0 true, wcur := 1, rxReady := true }.offer (.tick 8)
    BlockInv s ∧ ∃ s', step s = .next s' := by
  exact ⟨by constructor <;> decide, _, rfl⟩

end Sys2Proof.Tests
end

section
/-! PROOFS. How each instruction is admitted (spec/70_reset_and_hazards.md R276), and from it which steps complete and
under which name the others are refused (O10, O11). -/

namespace Sys2Proof.Machine

open Host (Outcome)

/-! ## The names of the refusals -/

section Refusals

variable {s : State} {n t : Nat} (f : State → State)

theorem access_of_closed (hc : s.closed = true) : s.access t f = .refused .afterClose := by
  simp [State.access, hc]

theorem access_of_bufLen_lt (hc : s.closed = false) (ht : s.bufLen < t) :
    s.access t f = .refused .cursorOutOfRange := by
  simp [State.access, hc, ht]

theorem access_of_lt_cursor (hc : s.closed = false) (hle : t ≤ s.bufLen) (ht : t < s.env.cursor) :
    s.access t f = .refused .cursorDecreased := by
  simp [State.access, hc, Nat.not_lt.2 hle, ht]

theorem lifecycle_of_closed (hc : s.closed = true) : s.lifecycle f = .refused .afterClose := by
  simp [State.lifecycle, hc]

/-- The length of a pull is looked at last (log entry 17): one whose `t` is not admitted is refused as an access is. -/
theorem pull_eq_access_of_not_admitted (h : ¬ Admitted s t) : s.pull n t f = s.access t f := by
  unfold State.pull State.access
  split_ifs with hc hr hd hn
  any_goals rfl
  exact absurd ⟨by simpa using hc, Nat.not_lt.1 hd, Nat.not_lt.1 hr⟩ h

theorem pull_of_bufLen_lt (ha : Admitted s t) (hn : s.bufLen < n) : s.pull n t f = .refused .pullTooLong := by
  obtain ⟨hc, hcur, hle⟩ := ha
  simp [State.pull, hc, Nat.not_lt.2 hcur, Nat.not_lt.2 hle, hn]

end Refusals

/-! ## The four ways an instruction is admitted -/

/-- How the model admits an instruction: what it brings to the block (`timeOf`, `framesOf`, `reachesBlock`) and the
shared operation that `exec` is, in every state, for some effect `f`. -/
inductive AdmittedBy (i : Instr) : Prop where
  /-- an entry point that carries `t` -/
  | access (t : Nat) (f : State → State) (time : timeOf i = some t) (frames : framesOf i = none)
      (reaches : reachesBlock i = true) (exec_eq : ∀ s, exec i s = s.access t f)
  /-- a buffer pull of `n` frames at `t` -/
  | pull (n t : Nat) (f : State → State) (time : timeOf i = some t) (frames : framesOf i = some n)
      (reaches : reachesBlock i = true) (exec_eq : ∀ s, exec i s = s.pull n t f)
  /-- `CONSTRUCT`, which carries no `t` -/
  | lifecycle (f : State → State) (time : timeOf i = none) (frames : framesOf i = none)
      (reaches : reachesBlock i = true) (exec_eq : ∀ s, exec i s = s.lifecycle f)
  /-- an unbound access, which owes nothing -/
  | outside (f : State → State) (time : timeOf i = none) (frames : framesOf i = none)
      (reaches : reachesBlock i = false) (exec_eq : ∀ s, exec i s = .next (f s))

/-- The one case analysis over the instructions: all but five are accesses at their own `t`. -/
theorem admittedBy (i : Instr) : AdmittedBy i := by
  cases i with
  | pullPcm n acc t => exact .pull n t _ rfl rfl rfl fun _ => by unfold exec; rfl
  | pullSynth n acc t => exact .pull n t _ rfl rfl rfl fun _ => by unfold exec; rfl
  | construct passthrough => exact .lifecycle _ rfl rfl rfl fun _ => by unfold exec; rfl
  | unbound port data t => exact .outside _ rfl rfl rfl fun _ => by unfold exec; rfl
  | inBaseSelect t => exact .outside _ rfl rfl rfl fun _ => by unfold exec; rfl
  | _ => exact .access _ _ rfl rfl rfl fun _ => by unfold exec; rfl

/-! ## The host duties of each -/

section Duties

variable {s : State} {i : Instr} {n t : Nat}

theorem hostDuties_iff_admitted (ht : timeOf i = some t) (hn : framesOf i = none) (hr : reachesBlock i = true) :
    HostDuties s i ↔ Admitted s t := by
  simp [HostDuties, ht, hn, hr]

theorem hostDuties_iff_pullAdmitted (ht : timeOf i = some t) (hn : framesOf i = some n)
    (hr : reachesBlock i = true) : HostDuties s i ↔ PullAdmitted s n t := by
  simp [HostDuties, ht, hn, hr, and_assoc]

theorem hostDuties_iff_not_closed (ht : timeOf i = none) (hn : framesOf i = none) (hr : reachesBlock i = true) :
    HostDuties s i ↔ s.closed = false := by
  simp [HostDuties, ht, hn, hr]

theorem hostDuties_of_not_reachesBlock (ht : timeOf i = none) (hn : framesOf i = none)
    (hr : reachesBlock i = false) : HostDuties s i := by
  simp [HostDuties, ht, hn, hr]

end Duties

/-! ## What a broken duty answers -/

section BrokenDuties

variable {s : State} {i : Instr} {n t : Nat}

theorem exec_of_closed (hr : reachesBlock i = true) (hc : s.closed = true) : exec i s = .refused .afterClose := by
  cases admittedBy i with
  | access t f _ _ _ hex => rw [hex, access_of_closed f hc]
  | pull n t f _ _ _ hex =>
    rw [hex, pull_eq_access_of_not_admitted f fun ha => by simp [ha.1] at hc, access_of_closed f hc]
  | lifecycle f _ _ _ hex => rw [hex, lifecycle_of_closed f hc]
  | outside f _ _ hout _ => exact absurd (hr.symm.trans hout) (by decide)

/-- A `t` that is not admitted is refused by the one check of `t` that accesses and pulls share. -/
theorem exec_eq_access_of_not_admitted (ht : timeOf i = some t) (h : ¬ Admitted s t) :
    ∃ f, exec i s = s.access t f := by
  cases admittedBy i with
  | access t' f ht' _ _ hex =>
    obtain rfl : t' = t := Option.some.inj (ht'.symm.trans ht)
    exact ⟨f, hex s⟩
  | pull n t' f ht' _ _ hex =>
    obtain rfl : t' = t := Option.some.inj (ht'.symm.trans ht)
    exact ⟨f, (hex s).trans (pull_eq_access_of_not_admitted f h)⟩
  | lifecycle f ht' _ _ _ | outside f ht' _ _ _ => exact absurd (ht'.symm.trans ht) nofun

theorem exec_of_bufLen_lt_time (ht : timeOf i = some t) (hc : s.closed = false) (h : s.bufLen < t) :
    exec i s = .refused .cursorOutOfRange := by
  obtain ⟨f, hex⟩ := exec_eq_access_of_not_admitted ht fun ha : Admitted s t => Nat.not_lt.2 ha.2.2 h
  rw [hex, access_of_bufLen_lt f hc h]

theorem exec_of_time_lt_cursor (ht : timeOf i = some t) (hc : s.closed = false) (hle : t ≤ s.bufLen)
    (h : t < s.env.cursor) : exec i s = .refused .cursorDecreased := by
  obtain ⟨f, hex⟩ := exec_eq_access_of_not_admitted ht fun ha : Admitted s t => Nat.not_lt.2 ha.2.1 h
  rw [hex, access_of_lt_cursor f hc hle h]

theorem exec_of_bufLen_lt_frames (hn : framesOf i = some n) (ht : timeOf i = some t) (ha : Admitted s t)
    (h : s.bufLen < n) : exec i s = .refused .pullTooLong := by
  cases admittedBy i with
  | pull n' t' f ht' hn' _ hex =>
    obtain rfl : t' = t := Option.some.inj (ht'.symm.trans ht)
    obtain rfl : n' = n := Option.some.inj (hn'.symm.trans hn)
    rw [hex, pull_of_bufLen_lt f ha h]
  | access _ _ _ hn' _ _ | lifecycle _ _ hn' _ _ | outside _ _ hn' _ _ =>
    exact absurd (hn'.symm.trans hn) nofun

end BrokenDuties

/-! ## The obligations -/

/-- Settles O10: for each of the four ways of admission the duties come down to what its operation checks. -/
theorem admittedStepsComplete : Obligations.AdmittedStepsComplete := by
  intro s i
  cases admittedBy i with
  | access t f ht hn hr hex => simp [hex, access_next_iff, hostDuties_iff_admitted ht hn hr]
  | pull n t f ht hn hr hex => simp [hex, pull_next_iff, hostDuties_iff_pullAdmitted ht hn hr]
  | lifecycle f ht hn hr hex => simp [hex, lifecycle_next_iff, hostDuties_iff_not_closed ht hn hr]
  | outside f ht hn hr hex => exact ⟨fun _ => hostDuties_of_not_reachesBlock ht hn hr, fun _ => ⟨f s, hex s⟩⟩

/-- Settles O11: one lemma a duty, in the order in which the model looks at them (log entry 17). -/
theorem refusalNamesTheBrokenDuty : Obligations.RefusalNamesTheBrokenDuty := fun _ _ =>
  ⟨exec_of_closed, fun _ => exec_of_bufLen_lt_time, fun _ => exec_of_time_lt_cursor,
    fun _ _ => exec_of_bufLen_lt_frames⟩

end Sys2Proof.Machine
end

section
/-! PROOFS. What one instruction can do to the block, said once: `exec_effect`. The proofs that follow, of what every step
keeps and of what alone changes an element, are case analyses over it. -/

namespace Sys2Proof.Machine

/-! ## The bits tested in written bytes -/

/-- Both bits of 0x60 are asked for (R177). -/
theorem softReset_iff (v : Byte) : softReset v = true ↔ v.getLsbD 5 = true ∧ v.getLsbD 6 = true := by
  revert v
  decide

/-- A test of bit 7 by its mask (R116). -/
theorem and_sc1Reset_bne_zero (v : Byte) : (v &&& Config.params.sc1Reset != 0#8) = v.getLsbD 7 := by
  revert v
  decide

theorem systemResetEdge_iff (v old : Byte) :
    systemResetEdge v old = true ↔ v.getLsbD 7 = true ∧ old.getLsbD 7 = false := by
  have hold : (old &&& Config.params.sc1Reset == 0#8) = !old.getLsbD 7 := by
    rw [← and_sc1Reset_bne_zero, bne, Bool.not_not]
  simp [systemResetEdge, and_sc1Reset_bne_zero, hold]

/-! ## The effect of an instruction -/

/-- `s'` differs from `s` in nothing but plain registers, the closing of the block, and what stands outside it. -/
abbrev PlainFrame (s s' : State) : Prop :=
  s' = { s with
    mixer := s'.mixer, irqMask := s'.irqMask, scsi := s'.scsi, sysConf1 := s'.sysConf1, sysConf2 := s'.sysConf2
    sysConf3 := s'.sysConf3, sysConf4 := s'.sysConf4, wait := s'.wait, ioConf1 := s'.ioConf1, ioConf4 := s'.ioConf4
    compat := s'.compat, compatBase := s'.compatBase, sbIrqDma := s'.sbIrqDma, midiCtrl := s'.midiCtrl
    closed := s'.closed, env := s'.env }

/-- An effect that no invariant of the block speaks of: the frame, calls that do not drive the line, and a cursor that
stays or is an admitted one. -/
structure PlainEffect (s s' : State) : Prop where
  /-- nothing else is new -/
  frame : PlainFrame s s'
  /-- the calls made -/
  quiet : ∃ cs, s'.env.trace = s.env.trace ++ cs ∧ ∀ c ∈ cs, c.drivesLine = false
  /-- the host's cursor -/
  cursor : s'.env.cursor = s.env.cursor ∨ s'.env.cursor ≤ s.bufLen

/-- What an instruction that completes can have done: `StepEffect s i s'` has one constructor for each kind of effect. -/
inductive StepEffect (s : State) : Instr → State → Prop
  /-- reads, plain writes, forwarded bytes, unmapped and unbound accesses, the synthesizer pull, `CLOSE`; a MIDI byte
  without passthrough, and the `MIDI_CTRL` and `SYS_CONF_1` writes that reset nothing -/
  | plain {i : Instr} {s' : State} (h : PlainEffect s s') : StepEffect s i s'
  /-- a base-select write (R151) -/
  | baseSelect {v : Byte} {t : Nat} (ha : Admitted s t) :
      StepEffect s (.outBaseSelect v t) { s.enter t with base := newBase v }
  /-- an `IO_CONF_2` write (R127) -/
  | dmaSelect {v : Byte} {t : Nat} (ha : Admitted s t) :
      StepEffect s (.outIoConf2 v t) { s.enter t with ioConf2 := v, selDma := dmaChannel v }
  /-- an `IO_CONF_3` write (R128) -/
  | irqSelect {v : Byte} {t : Nat} (ha : Admitted s t) :
      StepEffect s (.outIoConf3 v t) { s.enter t with ioConf3 := v, selIrq := irqLine v }
  /-- a clear-mask write (R165) -/
  | statusClear {v : Byte} {t : Nat} (ha : Admitted s t) :
      StepEffect s (.outIrqStat v t) { s.enter t with irqStat := cleared v s.irqStat }
  /-- a `PCM_CTRL` write (R109) -/
  | pcmCtrl {v : Byte} {t : Nat} (ha : Admitted s t) :
      StepEffect s (.outPcmCtrl v t)
        { s.enter t with stereoR := if pcmEnableEdge v s.pcmCtrl then false else s.stereoR, pcmCtrl := v }
  /-- the writes that flush before they store (R105, R107, R108) -/
  | flushStore {i : Instr} {v : Byte} {t : Nat} {filter : Byte} {pcmData : BitVec 16} (ha : Admitted s t)
      (hi : i = .outFilter v t ∨ i = .outPcmDataLo v t ∨ i = .outPcmDataHi v t) :
      StepEffect s i { (s.enter t).flush t with filter := filter, pcmData := pcmData }
  /-- a timer-window read (R56, R113) -/
  | timerRead {off : Port} {t : Nat} {r : Reply} (ha : Admitted s t) :
      StepEffect s (.inTimer off t) (((s.enter t).timerRead (timerIndex off)).2.returning r)
  /-- a timer-window write (R114) -/
  | timerWrite {off : Port} {v : Byte} {t : Nat} (ha : Admitted s t) :
      StepEffect s (.outTimer off v t) ((s.enter t).timerWrite (timerIndex off) v)
  /-- a MIDI data write at either port (R180, R185) -/
  | midiSend {i : Instr} {v : Byte} {t : Nat} (ha : Admitted s t)
      (hi : i = .outMidiData v t ∨ i = .outMidiDataAlias v t) : StepEffect s i ((s.enter t).midiSend v)
  /-- a MIDI data read at either port (R183, R184) -/
  | midiRead {i : Instr} {t : Nat} (ha : Admitted s t) (hi : i = .inMidiData t ∨ i = .inMidiDataAlias t) :
      StepEffect s i (s.enter t).midiRead
  /-- an incoming MIDI byte under passthrough (R186) -/
  | midiPush {b : Byte} {t : Nat} (ha : Admitted s t) (hp : s.midiPassthrough = true) :
      StepEffect s (.midiIn b t) ((s.enter t).midiPush b)
  /-- a MIDI soft reset (R177) -/
  | softReset {v : Byte} {t : Nat} (ha : Admitted s t) (hr : softReset v = true) :
      StepEffect s (.outMidiCtrl v t) (s.enter t).midiEmptied.midiEval
  /-- a tick (R201) -/
  | tick {t : Nat} (ha : Admitted s t) : StepEffect s (.tick t) ((s.enter t).tickOp t)
  /-- a PCM pull (R233): the frames up to `n` flushed, `POS` and the cursor at 0 -/
  | pullPcm {n : Nat} {acc : List Frame} {t : Nat} {supply : Supply} {drawn : Nat} {r : Reply}
      (ha : PullAdmitted s n t) :
      StepEffect s (.pullPcm n acc t)
        { (s.enter t).flush n with
          pos := 0
          env := { s.env with
            trace := s.env.trace ++ [.dspMix n, .dspBufReset], supply := supply, drawn := drawn, reply := r
            cursor := 0 } }
  /-- a reset by the host (R274) -/
  | hostReset {t : Nat} (ha : Admitted s t) : StepEffect s (.hostReset t) ((s.enter t).deviceReset t)
  /-- a `SYS_CONF_1` write that resets, then stores its byte (R116) -/
  | systemReset {v : Byte} {t : Nat} (ha : Admitted s t) (hv : v.getLsbD 7 = true)
      (hold : s.sysConf1.getLsbD 7 = false) :
      StepEffect s (.outSysConf1 v t) { (s.enter t).deviceReset t with sysConf1 := v }
  /-- a new block (R270) -/
  | construct {p : Bool} (hc : s.closed = false) :
      StepEffect s (.construct p)
        (State.atConstruction p s.bufLen
          { s.env with
            trace := [.dspSetAddr 0x0000#16, .uartSetAddr 0x0000#16, .dspSetIrqDma 0x00#8], reply := .nothing
            cursor := 0 })

/-- A `CONSTRUCT` makes the three calls of R270: both compatibility addresses are disabled in a new block. -/
theorem execConstruct_eq {s : State} (p : Bool) (hc : s.closed = false) :
    execConstruct p s = .next (State.atConstruction p s.bufLen
      { s.env with
        trace := [.dspSetAddr 0x0000#16, .uartSetAddr 0x0000#16, .dspSetIrqDma 0x00#8], reply := .nothing
        cursor := 0 }) := by
  rw [execConstruct, lifecycle_next_iff.2 ⟨hc, rfl⟩]
  simp [compatPush_eq, State.call, State.atConstruction, State.enter, dspAddress, uartAddress]

/-- An admitted step that makes the calls `cs`, none of which drives the line, in the plain frame. -/
theorem PlainEffect.of_admitted {s s' : State} {t : Nat} (ha : Admitted s t) (cs : List Call)
    (frame : PlainFrame s s') (trace : s'.env.trace = s.env.trace ++ cs) (quiet : ∀ c ∈ cs, c.drivesLine = false)
    (cursor : s'.env.cursor = t) : PlainEffect s s' :=
  ⟨frame, ⟨cs, trace, quiet⟩, .inr (cursor.trans_le ha.2.2)⟩

/-- An admitted step that makes no call, in the plain frame. -/
theorem PlainEffect.of_silent {s s' : State} {t : Nat} (ha : Admitted s t) (frame : PlainFrame s s')
    (trace : s'.env.trace = s.env.trace) (cursor : s'.env.cursor = t) : PlainEffect s s' :=
  .of_admitted ha [] frame (trace.trans (List.append_nil _).symm) (by simp) cursor

/-- An access that does not reach the block, whatever the bus returns (R148). -/
theorem PlainEffect.of_returning (s : State) (r : Reply) : PlainEffect s (s.returning r) :=
  ⟨rfl, ⟨[], (List.append_nil _).symm, by simp⟩, .inl rfl⟩

/-- What `COMPAT` and `COMPAT_BASE` writes share: their bytes stored, both addresses pushed (R133, R135). -/
theorem PlainEffect.of_compatPush {s : State} {t : Nat} (ha : Admitted s t) (a b : Byte) :
    PlainEffect s { s.enter t with compat := a, compatBase := b }.compatPush := by
  rw [compatPush_eq]
  exact .of_admitted ha [.dspSetAddr _, .uartSetAddr _] rfl rfl (by simp [Call.drivesLine]) rfl

/-- A synthesizer register read (R101). -/
theorem PlainEffect.of_synthRead {s : State} {t : Nat} (ha : Admitted s t) (off : Port) (r : Reply) :
    PlainEffect s (((s.enter t).synthRead off).2.returning r) := by
  rw [synthRead_eq]
  exact .of_admitted ha [.synthRead off] rfl rfl (by simp [Call.drivesLine]) rfl

/-- A synthesizer pull (R235). -/
theorem PlainEffect.of_synthPull {s : State} {t : Nat} (ha : Admitted s t) (n : Nat) (r : Reply) :
    PlainEffect s ((((s.enter t).synthPull n).2.call .synthBufReset).returning r) := by
  rw [synthPull_eq]
  exact .of_admitted ha [.synthPull n, .synthBufReset] rfl (by simp) (by simp [Call.drivesLine]) rfl

/-- A PCM pull (R233): the flush, the answers drawn, two calls, `POS` and the cursor at 0. -/
theorem execPullPcm_effect {s s' : State} {n : Nat} {acc : List Frame} {t : Nat}
    (h : execPullPcm n acc s t = .next s') : StepEffect s (.pullPcm n acc t) s' := by
  unfold execPullPcm at h
  obtain ⟨ha, rfl⟩ := pull_next_iff.1 h
  simp only [dspMix_eq, State.call, flush_env, List.append_assoc, List.cons_append, List.nil_append]
  exact .pullPcm ha

/-- The inversion of `exec`: whatever completes has one of the effects. Every instruction that is not named here is a read,
a plain write or an ignored one, and makes no call. -/
theorem exec_effect {s s' : State} {i : Instr} (h : exec i s = .next s') : StepEffect s i s' := by
  unfold exec at h
  cases i with
  | unbound port data t =>
    obtain rfl := Host.Outcome.next.inj h
    exact .plain (.of_returning s _)
  | inBaseSelect t =>
    obtain rfl := Host.Outcome.next.inj h
    exact .plain (.of_returning s _)
  | construct p =>
    obtain ⟨hc, -⟩ := lifecycle_next_iff.1 h
    obtain rfl := Host.Outcome.next.inj ((execConstruct_eq p hc).symm.trans h)
    exact .construct hc
  | pullPcm n acc t => exact execPullPcm_effect h
  | pullSynth n acc t =>
    obtain ⟨ha, rfl⟩ := pull_next_iff.1 h
    exact .plain (.of_synthPull ha.1 n _)
  | outBaseSelect v t => obtain ⟨ha, rfl⟩ := access_next_iff.1 h; exact .baseSelect ha
  | outIoConf2 v t => obtain ⟨ha, rfl⟩ := access_next_iff.1 h; exact .dmaSelect ha
  | outIoConf3 v t => obtain ⟨ha, rfl⟩ := access_next_iff.1 h; exact .irqSelect ha
  | outIrqStat v t => obtain ⟨ha, rfl⟩ := access_next_iff.1 h; exact .statusClear ha
  | outPcmCtrl v t => obtain ⟨ha, rfl⟩ := access_next_iff.1 h; exact .pcmCtrl ha
  | outFilter v t => obtain ⟨ha, rfl⟩ := access_next_iff.1 h; exact .flushStore ha (.inl rfl)
  | outPcmDataLo v t => obtain ⟨ha, rfl⟩ := access_next_iff.1 h; exact .flushStore ha (.inr (.inl rfl))
  | outPcmDataHi v t => obtain ⟨ha, rfl⟩ := access_next_iff.1 h; exact .flushStore ha (.inr (.inr rfl))
  | inTimer off t => obtain ⟨ha, rfl⟩ := access_next_iff.1 h; exact .timerRead ha
  | outTimer off v t => obtain ⟨ha, rfl⟩ := access_next_iff.1 h; exact .timerWrite ha
  | outMidiData v t => obtain ⟨ha, rfl⟩ := access_next_iff.1 h; exact .midiSend ha (.inl rfl)
  | outMidiDataAlias v t => obtain ⟨ha, rfl⟩ := access_next_iff.1 h; exact .midiSend ha (.inr rfl)
  | inMidiData t => obtain ⟨ha, rfl⟩ := access_next_iff.1 h; exact .midiRead ha (.inl rfl)
  | inMidiDataAlias t => obtain ⟨ha, rfl⟩ := access_next_iff.1 h; exact .midiRead ha (.inr rfl)
  | tick t => obtain ⟨ha, rfl⟩ := access_next_iff.1 h; exact .tick ha
  | hostReset t => obtain ⟨ha, rfl⟩ := access_next_iff.1 h; exact .hostReset ha
  | outSysConf1 v t =>
    obtain ⟨ha, rfl⟩ := access_next_iff.1 h
    split
    · next he =>
      obtain ⟨hv, hold⟩ := (systemResetEdge_iff _ _).1 he
      exact .systemReset ha hv hold
    · exact .plain (.of_silent ha rfl rfl rfl)
  | outMidiCtrl v t =>
    obtain ⟨ha, rfl⟩ := access_next_iff.1 h
    split
    · next hr => exact .softReset ha hr
    · exact .plain (.of_silent ha rfl rfl rfl)
  | midiIn b t =>
    obtain ⟨ha, rfl⟩ := access_next_iff.1 h
    split
    · next hp => exact .midiPush ha hp
    · exact .plain (.of_silent ha rfl rfl rfl)
  | outCompat v t => obtain ⟨ha, rfl⟩ := access_next_iff.1 h; exact .plain (.of_compatPush ha _ _)
  | outCompatBase v t => obtain ⟨ha, rfl⟩ := access_next_iff.1 h; exact .plain (.of_compatPush ha _ _)
  | inSynth off t => obtain ⟨ha, rfl⟩ := access_next_iff.1 h; exact .plain (.of_synthRead ha off _)
  | outSynth off v t =>
    obtain ⟨ha, rfl⟩ := access_next_iff.1 h
    exact .plain (.of_admitted ha [.synthWrite off v] rfl rfl (by simp [Call.drivesLine]) rfl)
  | outSbIrqDma v t =>
    obtain ⟨ha, rfl⟩ := access_next_iff.1 h
    exact .plain (.of_admitted ha [.dspSetIrqDma v] rfl rfl (by simp [Call.drivesLine]) rfl)
  | _ =>
    obtain ⟨ha, rfl⟩ := access_next_iff.1 h
    exact .plain (.of_silent ha rfl rfl rfl)

end Sys2Proof.Machine
end

section
/-! PROOFS. The invariant of the block (spec/10_state.md R49): each shared operation keeps it, hence every step does (O60),
and it holds at reset (O59). -/

namespace Sys2Proof.Machine

/-! ## The level of the line -/

/-- Calls that do not drive the line leave its level. -/
theorem drivenLevel_append_of_quiet (trace cs : List Call) (h : ∀ c ∈ cs, c.drivesLine = false) :
    drivenLevel (trace ++ cs) = drivenLevel trace := by
  induction cs generalizing trace with
  | nil => simp
  | cons c cs ih =>
    have hc : levelAfter (drivenLevel trace) c = drivenLevel trace := by
      have := h c (by simp)
      cases c <;> simp_all [Call.drivesLine, levelAfter]
    rw [List.append_cons, ih _ fun d hd => h d (by simp [hd]), drivenLevel_append, hc]

/-! ## The reserved bits of `IRQ_STAT` -/

/-- A clear-mask write sets no bit, whatever its mask (R165). -/
theorem cleared_reserved (v stat : Byte) (h : stat &&& 0xE3#8 = 0#8) : cleared v stat &&& 0xE3#8 = 0#8 := by
  rw [cleared, BitVec.and_assoc, BitVec.and_comm (~~~v), ← BitVec.and_assoc, h, BitVec.zero_and]

/-- A producer sets no bit but its own (R163). -/
theorem raised_reserved (bit : Byte) (cond : Bool) (stat : Byte) (hb : bit &&& 0xE3#8 = 0#8)
    (h : stat &&& 0xE3#8 = 0#8) : raised bit cond stat &&& 0xE3#8 = 0#8 := by
  unfold raised
  split
  · rw [BitVec.and_comm, BitVec.and_or_distrib_left, BitVec.and_comm _ stat, BitVec.and_comm _ bit, h, hb]
    rfl
  · exact h

/-! ## The base and the selections -/

theorem newBase_eq (v : Byte) : newBase v = BitVec.ofNat 16 (4 * v.toNat) := by
  have hv := v.isLt
  apply BitVec.eq_of_toNat_eq
  simp only [newBase, Config.params, BitVec.toNat_shiftLeft, BitVec.toNat_setWidth, BitVec.toNat_ofNat,
    Nat.shiftLeft_eq]
  omega

/-- Four times a byte is a legal base: a multiple of 4 in [0x000, 0x3FC] (R21, R152). -/
theorem legalBase_four_mul (v : Byte) : legalBase (BitVec.ofNat 16 (4 * v.toNat)) = true := by
  have hv := v.isLt
  have hn : (BitVec.ofNat 16 (4 * v.toNat)).toNat = 4 * v.toNat := by
    rw [BitVec.toNat_ofNat]
    omega
  have hlow : BitVec.ofNat 16 (4 * v.toNat) &&& 0x3#16 = 0#16 := by
    apply BitVec.eq_of_toNat_eq
    rw [BitVec.toNat_and, hn]
    exact (Nat.and_two_pow_sub_one_eq_mod _ 2).trans (by simp)
  simp only [legalBase, hlow, hn, beq_self_eq_true, Bool.true_and, decide_eq_true_eq]
  omega

theorem legalBase_newBase (v : Byte) : legalBase (newBase v) = true := by
  rw [newBase_eq]
  exact legalBase_four_mul v

/-- A byte 0 selects the first entry of its table, as at construction (R22, R23). -/
theorem dmaChannel_zero : dmaChannel 0x00#8 = Config.dmaEntry 0 := by decide

theorem irqLine_zero : irqLine 0x00#8 = Config.irqEntry 0 := by decide

/-! ## Each operation keeps the invariant -/

namespace BlockInv

variable {s : State}

/-- A state in the plain frame with the same level of the line and an admitted cursor. -/
theorem plain {s' : State} (inv : BlockInv s) (h : PlainEffect s s') : BlockInv s' := by
  obtain ⟨hf, ⟨cs, htrace, hquiet⟩, hcursor⟩ := h
  rw [hf]
  exact { inv with
    cursor_le := by
      have := inv.cursor_le
      dsimp only
      omega
    line_driven := by
      dsimp only
      rw [htrace, drivenLevel_append_of_quiet _ _ hquiet]
      exact inv.line_driven }

theorem enter {t : Nat} (inv : BlockInv s) (ht : t ≤ s.bufLen) : BlockInv (s.enter t) :=
  { inv with cursor_le := ht }

theorem returning (inv : BlockInv s) (r : Reply) : BlockInv (s.returning r) :=
  { inv with }

/-- `Produce` sets no reserved bit, and leaves the line at the level of its own call (R163). -/
theorem produce (inv : BlockInv s) {bit : Byte} (cond : Bool) (hb : bit &&& 0xE3#8 = 0#8) :
    BlockInv (s.produce bit cond) := by
  rw [produce_eq]
  exact { inv with
    irqStat_reserved := raised_reserved bit cond s.irqStat hb inv.irqStat_reserved
    line_driven := by simp [drivenLevel_append] }

theorem flush {t : Nat} (inv : BlockInv s) (ht : t ≤ s.bufLen) : BlockInv (s.flush t) := by
  have hL := (flush_bufL_length s t).trans inv.bufL_length
  have hR := (flush_bufR_length s t).trans inv.bufR_length
  rw [flush_eq]
  exact { inv with bufL_length := hL, bufR_length := hR, pos_le := max_le inv.pos_le ht }

theorem timerRead (inv : BlockInv s) (i : Port) : BlockInv (s.timerRead i).2 := by
  rw [timerRead_eq]
  exact { inv with
    count_range := toT1_count_range _
    line_driven := by rw [drivenLevel_append]; exact inv.line_driven }

theorem timerWrite (inv : BlockInv s) (i : Port) (v : Byte) : BlockInv (s.timerWrite i v) := by
  rw [timerWrite_eq]
  exact { inv with
    count_range := toT1_count_range _
    line_driven := by rw [drivenLevel_append]; exact inv.line_driven }

theorem midiSend (inv : BlockInv s) (v : Byte) : BlockInv (s.midiSend v) := by
  have hsent : BlockInv { s.call (.uartSend v) with txReady := true } :=
    { inv with line_driven := by rw [call_trace, drivenLevel_append]; exact inv.line_driven }
  rw [midiSend_eq]
  exact hsent.produce true rfl

theorem midiPop (inv : BlockInv s) : BlockInv s.midiPop := by
  rw [midiPop_eq]
  refine produce ?_ _ rfl
  exact { inv with rxReady_iff_data := rfl }

theorem midiRead (inv : BlockInv s) : BlockInv s.midiRead := by
  rw [midiRead_eq]
  split
  · exact inv.returning _
  · exact inv.midiPop.returning _

theorem midiPush (inv : BlockInv s) (b : Byte) : BlockInv (s.midiPush b) := by
  rw [midiPush_eq]
  refine produce ?_ _ rfl
  exact { inv with rxReady_iff_data := rfl }

theorem softReset (inv : BlockInv s) : BlockInv s.midiEmptied.midiEval := by
  rw [midiEval_eq]
  refine produce ?_ _ rfl
  exact { inv with rxReady_iff_data := rfl }

theorem assemble (inv : BlockInv s) : BlockInv s.assemble.2 := by
  have hquiet : ∀ c ∈ List.replicate (if wideSamples s.sysConf2 then 2 else 1) (Call.dmaRead s.selDma),
      c.drivesLine = false := by
    intro c hc
    rw [List.eq_of_mem_replicate hc]
    rfl
  rw [assemble_eq]
  exact { inv with
    line_driven := (inv.line_driven.trans (drivenLevel_append_of_quiet _ _ hquiet).symm :) }

theorem route (inv : BlockInv s) (x : Sample) : BlockInv (s.route x) := by
  rw [route_eq]
  exact { inv with }

theorem countdown (inv : BlockInv s) : BlockInv s.countdown := by
  have hstep : 0 ≤ countStep s.sysConf2 := by
    unfold countStep
    split <;> decide
  have hcounted : BlockInv { s with t1 := s.t1.countdown (countStep s.sysConf2) } :=
    { inv with count_range := countdown_count_range s.t1 _ hstep inv.count_range.2 }
  rw [countdown_eq]
  split
  · exact hcounted.produce true rfl
  · exact hcounted

theorem tickOp {t : Nat} (inv : BlockInv s) (ht : t ≤ s.bufLen) : BlockInv (s.tickOp t) := by
  have hproduced := (inv.flush ht).produce (bit := Config.params.intSamp) true rfl
  rw [tickOp_eq]
  split
  · split
    · exact (hproduced.assemble.route _).countdown
    · exact hproduced.countdown
  · exact hproduced

theorem deviceReset {t : Nat} (inv : BlockInv s) (ht : t ≤ s.bufLen) : BlockInv (s.deviceReset t) := by
  have hflushed := inv.flush ht
  rw [deviceReset_eq]
  exact { hflushed with
    selIrq_selected := irqLine_zero.symm
    selDma_selected := dmaChannel_zero.symm
    irqStat_reserved := BitVec.zero_and
    rxReady_iff_data := rfl
    midiStat_ones := rfl
    cursor_le := by simpa [State.resetRegisters, State.midiEmptied] using inv.cursor_le
    line_driven := by simp [drivenLevel, levelAfter] }

/-- A block at its construction values, whatever calls that do not drive the line it has made (R20, R270). -/
theorem atConstruction (p : Bool) {bufLen : Nat} {env : Env} (hpos : 0 < bufLen) (hcursor : env.cursor = 0)
    (hquiet : ∀ c ∈ env.trace, c.drivesLine = false) : BlockInv (State.atConstruction p bufLen env) where
  base_legal := (by decide : legalBase 0x388#16 = true)
  selIrq_selected := irqLine_zero.symm
  selDma_selected := dmaChannel_zero.symm
  irqStat_reserved := BitVec.zero_and
  rxReady_iff_data := rfl
  midiStat_ones := rfl
  count_range := by simp [State.atConstruction]
  bufLen_pos := hpos
  bufL_length := List.length_replicate
  bufR_length := List.length_replicate
  pos_le := Nat.zero_le _
  cursor_le := hcursor.trans_le (Nat.zero_le _)
  line_driven := (drivenLevel_append_of_quiet [] env.trace hquiet).symm

/-- Whatever effect an instruction has, the invariant is kept. -/
theorem of_effect {s' : State} {i : Instr} (inv : BlockInv s) (h : StepEffect s i s') : BlockInv s' := by
  cases h with
  | plain h => exact inv.plain h
  | baseSelect ha => exact { inv.enter ha.2.2 with base_legal := legalBase_newBase _ }
  | dmaSelect ha => exact { inv.enter ha.2.2 with selDma_selected := rfl }
  | irqSelect ha => exact { inv.enter ha.2.2 with selIrq_selected := rfl }
  | statusClear ha =>
    exact { inv.enter ha.2.2 with irqStat_reserved := cleared_reserved _ _ inv.irqStat_reserved }
  | pcmCtrl ha => exact { inv.enter ha.2.2 with }
  | flushStore ha _ => exact { (inv.enter ha.2.2).flush ha.2.2 with }
  | timerRead ha => exact ((inv.enter ha.2.2).timerRead _).returning _
  | timerWrite ha => exact (inv.enter ha.2.2).timerWrite _ _
  | midiSend ha _ => exact (inv.enter ha.2.2).midiSend _
  | midiRead ha _ => exact (inv.enter ha.2.2).midiRead
  | midiPush ha _ => exact (inv.enter ha.2.2).midiPush _
  | softReset ha _ => exact (inv.enter ha.2.2).softReset
  | tick ha => exact (inv.enter ha.2.2).tickOp ha.2.2
  | pullPcm ha =>
    exact { (inv.enter ha.1.2.2).flush ha.2 with
      pos_le := Nat.zero_le _
      cursor_le := Nat.zero_le _
      line_driven := by
        rw [drivenLevel_append_of_quiet _ _ (by simp [Call.drivesLine])]
        simpa using inv.line_driven }
  | hostReset ha => exact (inv.enter ha.2.2).deviceReset ha.2.2
  | systemReset ha _ _ => exact { (inv.enter ha.2.2).deviceReset ha.2.2 with }
  | construct hc => exact atConstruction _ inv.bufLen_pos rfl (by simp [Call.drivesLine])

end BlockInv

/-! ## The obligations -/

/-- Settles O60: a step executes one instruction, if any, and each of its effects keeps the invariant. -/
theorem everyStepKeepsTheInvariant : Obligations.EveryStepKeepsTheInvariant := by
  intro s s' inv h
  obtain ⟨-, rfl⟩ | ⟨e, rest, i, -, -, hexec⟩ := step_next_cases h
  · exact inv
  · have hrest : BlockInv { s with env := { s.env with inputs := rest } } := { inv with }
    exact hrest.of_effect (exec_effect hexec)

/-- Settles O59: the reset state is a block at its construction values with no byte unread. -/
theorem invariantHoldsAtReset : Obligations.InvariantHoldsAtReset :=
  ⟨.atConstruction _ (Nat.succ_pos _) rfl (by simp [Env.initial, Call.drivesLine]),
    fun k hk => absurd hk (Nat.not_lt_zero k)⟩

end Sys2Proof.Machine
end

section
/-! PROOFS. What an instruction can do to `BASE` and to the two selections (spec/10_state.md R21-R23): O31, O49, and the
two registers that select, O20 and O21. -/

namespace Sys2Proof.Machine

/-! ## What resets the block -/

/-- The instruction runs DeviceReset: HOST_RESET, or a `SYS_CONF_1` write whose bit 7 goes from 0 to 1 (R116, R274). -/
def ResetsDevice (s : State) (i : Instr) : Prop :=
  (∃ t, i = .hostReset t) ∨ ∃ v t, i = .outSysConf1 v t ∧ v.getLsbD 7 = true ∧ s.sysConf1.getLsbD 7 = false

/-- DeviceReset as an update of the state before its flush (R20, R272): what the flush fills stays filled. -/
theorem deviceReset_eq_resetRegisters (s : State) (t : Nat) :
    s.deviceReset t =
      { s.resetRegisters with
        pos := max s.pos t, bufL := (s.flush t).bufL, bufR := (s.flush t).bufR, line := false
        env := { s.env with
          trace := s.env.trace ++
            [.irqDeassert (1#16 <<< s.selIrq.val), .dspSetAddr 0x0000#16, .uartSetAddr 0x0000#16,
              .dspSetIrqDma 0x00#8] } } := by
  simp [deviceReset_eq, State.resetRegisters, State.midiEmptied]

@[simp] theorem deviceReset_base (s : State) (t : Nat) : (s.deviceReset t).base = s.base := by
  rw [deviceReset_eq_resetRegisters]; rfl

@[simp] theorem deviceReset_selIrq (s : State) (t : Nat) : (s.deviceReset t).selIrq = Config.irqEntry 0 := by
  rw [deviceReset_eq_resetRegisters]; rfl

@[simp] theorem deviceReset_selDma (s : State) (t : Nat) : (s.deviceReset t).selDma = Config.dmaEntry 0 := by
  rw [deviceReset_eq_resetRegisters]; rfl

@[simp] theorem deviceReset_ioConf2 (s : State) (t : Nat) : (s.deviceReset t).ioConf2 = 0x00#8 := by
  rw [deviceReset_eq_resetRegisters]; rfl

@[simp] theorem deviceReset_ioConf3 (s : State) (t : Nat) : (s.deviceReset t).ioConf3 = 0x00#8 := by
  rw [deviceReset_eq_resetRegisters]; rfl

@[simp] theorem deviceReset_rcur (s : State) (t : Nat) : (s.deviceReset t).rcur = 0 := by
  rw [deviceReset_eq_resetRegisters]; rfl

@[simp] theorem deviceReset_wcur (s : State) (t : Nat) : (s.deviceReset t).wcur = 0 := by
  rw [deviceReset_eq_resetRegisters]; rfl

/-! ## The tables -/

/-- Bits 2:0 of the byte are an index inside `DMA_TABLE`, of the entry selected (R127, R251). -/
theorem dmaTable_getElem? (v : Byte) : Config.params.dmaTable[v.toNat % 8]? = some (dmaChannel v) := by
  have hindex : dmaIndex v = v.toNat % 8 := by
    rw [dmaIndex, BitVec.toNat_and]
    exact Nat.and_two_pow_sub_one_eq_mod _ 3
  have hlt : v.toNat % 8 < Config.params.dmaTable.length := Nat.mod_lt _ (by decide)
  rw [dmaChannel, Config.dmaEntry, hindex, List.getD_eq_getElem _ _ hlt, List.getElem?_eq_getElem hlt]

/-- Bits 3:0 of the byte are an index inside `IRQ_TABLE`, of the entry selected (R128, R251). -/
theorem irqTable_getElem? (v : Byte) : Config.params.irqTable[v.toNat % 16]? = some (irqLine v) := by
  have hindex : irqIndex v = v.toNat % 16 := by
    rw [irqIndex, BitVec.toNat_and]
    exact Nat.and_two_pow_sub_one_eq_mod _ 4
  have hlt : v.toNat % 16 < Config.params.irqTable.length := Nat.mod_lt _ (by decide)
  rw [irqLine, Config.irqEntry, hindex, List.getD_eq_getElem _ _ hlt, List.getElem?_eq_getElem hlt]

/-! ## Routing: the base and the selections -/

/-- `BASE`, the two selections and the bytes they follow are the same in both states. -/
structure RoutingKept (s s' : State) : Prop where
  base : s'.base = s.base
  selIrq : s'.selIrq = s.selIrq
  selDma : s'.selDma = s.selDma
  ioConf2 : s'.ioConf2 = s.ioConf2
  ioConf3 : s'.ioConf3 = s.ioConf3

/-- What an instruction can do to the routing. -/
inductive RoutingEffect (s s' : State) : Instr → Prop
  /-- nothing -/
  | kept {i : Instr} (h : RoutingKept s s') : RoutingEffect s s' i
  /-- a new base (R151) -/
  | baseSelect {v : Byte} {t : Nat} (h : RoutingKept { s with base := newBase v } s') :
      RoutingEffect s s' (.outBaseSelect v t)
  /-- a new DMA channel with its byte (R127) -/
  | dmaSelect {v : Byte} {t : Nat} (h : RoutingKept { s with ioConf2 := v, selDma := dmaChannel v } s') :
      RoutingEffect s s' (.outIoConf2 v t)
  /-- a new IRQ line with its byte (R128) -/
  | irqSelect {v : Byte} {t : Nat} (h : RoutingKept { s with ioConf3 := v, selIrq := irqLine v } s') :
      RoutingEffect s s' (.outIoConf3 v t)
  /-- both selections and their bytes as at construction, the base kept (R272) -/
  | deviceReset {i : Instr} (hi : ResetsDevice s i)
      (h : RoutingKept
        { s with
          selIrq := irqLine 0x00#8, selDma := dmaChannel 0x00#8, ioConf2 := 0x00#8, ioConf3 := 0x00#8 } s') :
      RoutingEffect s s' i
  /-- everything as at construction (R270) -/
  | construct {p : Bool}
      (h : RoutingKept
        { s with
          base := 0x388#16, selIrq := irqLine 0x00#8, selDma := dmaChannel 0x00#8, ioConf2 := 0x00#8
          ioConf3 := 0x00#8 } s') :
      RoutingEffect s s' (.construct p)

/-- DeviceReset keeps the base and puts both selections at their first entries (R272). -/
theorem deviceReset_routing (s : State) (t : Nat) :
    RoutingKept
      { s with selIrq := irqLine 0x00#8, selDma := dmaChannel 0x00#8, ioConf2 := 0x00#8, ioConf3 := 0x00#8 }
      ((s.enter t).deviceReset t) where
  base := deviceReset_base _ t
  selIrq := (deviceReset_selIrq _ t).trans irqLine_zero.symm
  selDma := (deviceReset_selDma _ t).trans dmaChannel_zero.symm
  ioConf2 := deviceReset_ioConf2 _ t
  ioConf3 := deviceReset_ioConf3 _ t

/-- All but the two selecting registers, base select, resets and CONSTRUCT leave the routing alone. -/
theorem StepEffect.routing {s s' : State} {i : Instr} (h : StepEffect s i s') : RoutingEffect s s' i := by
  cases h with
  | plain h => rw [h.frame]; exact .kept ⟨rfl, rfl, rfl, rfl, rfl⟩
  | baseSelect _ => exact .baseSelect ⟨rfl, rfl, rfl, rfl, rfl⟩
  | dmaSelect _ => exact .dmaSelect ⟨rfl, rfl, rfl, rfl, rfl⟩
  | irqSelect _ => exact .irqSelect ⟨rfl, rfl, rfl, rfl, rfl⟩
  | flushStore _ _ => rw [flush_eq]; exact .kept ⟨rfl, rfl, rfl, rfl, rfl⟩
  | pullPcm _ => rw [flush_eq]; exact .kept ⟨rfl, rfl, rfl, rfl, rfl⟩
  | timerRead _ => rw [timerRead_eq]; exact .kept ⟨rfl, rfl, rfl, rfl, rfl⟩
  | timerWrite _ => rw [timerWrite_eq]; exact .kept ⟨rfl, rfl, rfl, rfl, rfl⟩
  | tick _ => rw [tickOp_frame]; exact .kept ⟨rfl, rfl, rfl, rfl, rfl⟩
  | midiRead _ _ => rw [midiRead_frame]; exact .kept ⟨rfl, rfl, rfl, rfl, rfl⟩
  | hostReset _ => exact .deviceReset (.inl ⟨_, rfl⟩) (deviceReset_routing _ _)
  | @systemReset v t _ hv hold =>
    exact .deviceReset (.inr ⟨v, t, rfl, hv, hold⟩) { deviceReset_routing s t with }
  | construct _ => exact .construct ⟨rfl, irqLine_zero.symm, dmaChannel_zero.symm, rfl, rfl⟩
  | midiSend _ _ => rw [midiSend_eq, produce_eq]; exact .kept ⟨rfl, rfl, rfl, rfl, rfl⟩
  | midiPush _ _ => rw [midiPush_eq, produce_eq]; exact .kept ⟨rfl, rfl, rfl, rfl, rfl⟩
  | softReset _ _ => rw [midiEval_eq, produce_eq]; exact .kept ⟨rfl, rfl, rfl, rfl, rfl⟩
  | statusClear _ => exact .kept ⟨rfl, rfl, rfl, rfl, rfl⟩
  | pcmCtrl _ => exact .kept ⟨rfl, rfl, rfl, rfl, rfl⟩

/-! ## The base -/

/-- `BASE` is the port of canonical offset 0x388 (R21). -/
theorem canonicalOffset_eq_canonRef_iff (base port : Port) : canonicalOffset base port = 0x388#16 ↔ port = base := by
  rw [canonicalOffset, Config.canonRef_eq]
  bv_omega

/-- A base-select write sets the base alone (R151, R152). -/
theorem exec_outBaseSelect {s : State} {t : Nat} (v : Byte) (ha : Admitted s t) :
    exec (.outBaseSelect v t) s = .next { s.enter t with base := BitVec.ofNat 16 (4 * v.toNat) } := by
  rw [← newBase_eq]
  unfold exec
  exact access_of_admitted _ ha

/-- Nothing but a base-select write and `CONSTRUCT` changes the base. -/
theorem base_eq_of_exec {s s' : State} {i : Instr} (h : exec i s = .next s') (hb : ∀ v t, i ≠ .outBaseSelect v t)
    (hc : ∀ p, i ≠ .construct p) : s'.base = s.base := by
  cases (exec_effect h).routing with
  | baseSelect _ => exact absurd rfl (hb _ _)
  | construct _ => exact absurd rfl (hc _)
  | kept hr => exact hr.base
  | dmaSelect hr => exact hr.base
  | irqSelect hr => exact hr.base
  | deviceReset _ hr => exact hr.base

/-- Whatever runs, the base stays legal. -/
theorem legalBase_of_exec {s s' : State} {i : Instr} (h : exec i s = .next s') (hs : legalBase s.base = true) :
    legalBase s'.base = true := by
  cases (exec_effect h).routing with
  | baseSelect hr => rw [hr.base]; exact legalBase_newBase _
  | construct hr => rw [hr.base]; exact (by decide : legalBase 0x388#16 = true)
  | kept hr => rw [hr.base]; exact hs
  | dmaSelect hr => rw [hr.base]; exact hs
  | irqSelect hr => rw [hr.base]; exact hs
  | deviceReset _ hr => rw [hr.base]; exact hs

/-- Settles O31, a lemma for each clause; the last two read off what an instruction can do to the routing. -/
theorem baseChangesOnlyByBaseSelect : Obligations.BaseChangesOnlyByBaseSelect :=
  ⟨canonicalOffset_eq_canonRef_iff, fun _ v _ ha => ⟨exec_outBaseSelect v ha, legalBase_four_mul v⟩,
    fun _ _ _ => base_eq_of_exec, fun _ _ _ => legalBase_of_exec⟩

/-! ## The selections -/

/-- A selected channel is in its table. -/
theorem selDma_mem {s : State} (h : s.selDma = dmaChannel s.ioConf2) :
    s.selDma = dmaChannel s.ioConf2 ∧ s.selDma ∈ Config.params.dmaTable :=
  ⟨h, h ▸ List.mem_of_getElem? (dmaTable_getElem? _)⟩

/-- A selected line is in its table. -/
theorem selIrq_mem {s : State} (h : s.selIrq = irqLine s.ioConf3) :
    s.selIrq = irqLine s.ioConf3 ∧ s.selIrq ∈ Config.params.irqTable :=
  ⟨h, h ▸ List.mem_of_getElem? (irqTable_getElem? _)⟩

/-- The same selections still follow their bytes. -/
theorem RoutingKept.selected {s s' : State} (h : RoutingKept s s') :
    (s.selDma = dmaChannel s.ioConf2 → s'.selDma = dmaChannel s'.ioConf2 ∧ s'.selDma ∈ Config.params.dmaTable) ∧
    (s.selIrq = irqLine s.ioConf3 → s'.selIrq = irqLine s'.ioConf3 ∧ s'.selIrq ∈ Config.params.irqTable) :=
  ⟨fun hs => selDma_mem (by rw [h.selDma, h.ioConf2, hs]), fun hs => selIrq_mem (by rw [h.selIrq, h.ioConf3, hs])⟩

/-- Settles O49: of what can happen to the routing, only a selection's own register, a reset and CONSTRUCT change it, and
each leaves it the entry its byte selects. -/
theorem channelChangesOnlyByIoConf2OrReset : Obligations.ChannelChangesOnlyByIoConf2OrReset := by
  intro s s' i h reset
  cases (exec_effect h).routing with
  | kept hr => exact ⟨fun hne => absurd hr.selDma hne, fun hne => absurd hr.selIrq hne, hr.selected⟩
  | baseSelect hr => exact ⟨fun hne => absurd hr.selDma hne, fun hne => absurd hr.selIrq hne, hr.selected⟩
  | dmaSelect hr =>
    exact ⟨fun _ => .inl ⟨_, _, rfl⟩, fun hne => absurd hr.selIrq hne, fun _ => hr.selected.1 rfl, hr.selected.2⟩
  | irqSelect hr =>
    exact ⟨fun hne => absurd hr.selDma hne, fun _ => .inl ⟨_, _, rfl⟩, hr.selected.1, fun _ => hr.selected.2 rfl⟩
  | deviceReset hi hr =>
    have hreset : reset := hi.imp_right .inl
    exact ⟨fun _ => .inr hreset, fun _ => .inr hreset, fun _ => hr.selected.1 (by dsimp only),
      fun _ => hr.selected.2 (by dsimp only)⟩
  | construct hr =>
    have hreset : reset := .inr (.inr ⟨_, rfl⟩)
    exact ⟨fun _ => .inr hreset, fun _ => .inr hreset, fun _ => hr.selected.1 (by dsimp only),
      fun _ => hr.selected.2 (by dsimp only)⟩

/-- Settles O20: the table entry at the low three bits is the channel that the write selects. -/
theorem ioConf2SelectsChannelByLowBits : Obligations.IoConf2SelectsChannelByLowBits := by
  intro s v t ha
  unfold exec
  exact ⟨⟨dmaChannel v, dmaTable_getElem? v, access_of_admitted _ ha⟩, access_of_admitted _ ha⟩

/-- Settles O21: the table entry at the low four bits is the line that the write selects. -/
theorem ioConf3SelectsLineByLowBits : Obligations.IoConf3SelectsLineByLowBits := by
  intro s v t ha
  unfold exec
  exact ⟨⟨irqLine v, irqTable_getElem? v, access_of_admitted _ ha⟩, access_of_admitted _ ha⟩

end Sys2Proof.Machine
end

section
/-! PROOFS. The values of the block at construction and after DeviceReset (spec/10_state.md table 10.1): O58 and O55. -/

namespace Sys2Proof.Machine

/-- Settles O58: every element stands in `State.reset` as its definition gives it. -/
theorem resetHoldsTheConstructionValues : Obligations.ResetHoldsTheConstructionValues := by
  have hslots (k : Fin 16) : State.reset.fifo[k.val] = 0x00#8 ∧ State.reset.valid[k.val] = false :=
    ⟨Vector.getElem_replicate .., Vector.getElem_replicate ..⟩
  exact ⟨rfl, rfl, rfl, rfl, rfl, rfl, rfl, rfl, hslots, rfl, rfl, rfl, rfl, rfl, rfl, rfl, rfl, rfl⟩

/-- `Flush(t)` is what the statements say of a flush up to `t` (R231). -/
theorem flush_flushed (s : State) (t : Nat) : Flushed s (s.flush t) t where
  pos_eq := flush_pos s t
  lengthL := flush_bufL_length s t
  lengthR := flush_bufR_length s t
  frameL k hk := by rw [flush_bufL_getD s t k hk]; simp [muted]
  frameR k hk := by rw [flush_bufR_getD s t k hk]; simp [muted]

/-- DeviceReset of a live block in terms of the block at reset: what table 10.1 keeps, what the flush has filled, and the
four calls (R272). -/
theorem deviceReset_eq_reset {s : State} (t : Nat) (hc : s.closed = false) :
    s.deviceReset t =
      { State.reset with
        base := s.base, stereoR := s.stereoR, fifo := s.fifo, midiPassthrough := s.midiPassthrough,
        bufLen := s.bufLen, t1 := s.t1, pos := (s.deviceReset t).pos, bufL := (s.deviceReset t).bufL,
        bufR := (s.deviceReset t).bufR
        env := { s.env with
          trace := s.env.trace ++
            [.irqDeassert (1#16 <<< s.selIrq.val), .dspSetAddr 0#16, .uartSetAddr 0#16, .dspSetIrqDma 0#8] } } := by
  rw [deviceReset_eq_resetRegisters, State.resetRegisters, State.midiEmptied, hc]
  rfl

/-- DeviceReset begins with the flush, and nothing in it touches the sample buffer after that (R272). -/
theorem deviceReset_flushed (s : State) (t : Nat) : Flushed s (s.deviceReset t) t := by
  have h := flush_flushed s t
  rw [deviceReset_eq]
  exact { h with }

/-- Settles O55: both triggers are DeviceReset on the entered state; the write then stores its byte. -/
theorem deviceResetRestoresConstructionValues : Obligations.DeviceResetRestoresConstructionValues := by
  intro s v t ha kept
  have hflushed : Flushed s ((s.enter t).deviceReset t) t := { deviceReset_flushed (s.enter t) t with }
  have hkept : (s.enter t).deviceReset t = kept ((s.enter t).deviceReset t) :=
    deviceReset_eq_reset (s := s.enter t) t ha.1
  have hreset : exec (.hostReset t) s = .next ((s.enter t).deviceReset t) := by
    unfold exec
    exact access_of_admitted _ ha
  have hwrite : exec (.outSysConf1 v t) s =
      .next { (if systemResetEdge v s.sysConf1 then (s.enter t).deviceReset t else s.enter t) with sysConf1 := v } := by
    unfold exec
    exact access_of_admitted _ ha
  refine ⟨⟨_, hreset, hflushed, hkept⟩, fun hedge => ?_, fun hedge => ?_⟩
  · rw [if_pos ((systemResetEdge_iff _ _).2 hedge)] at hwrite
    refine ⟨_, hwrite, { hflushed with }, ?_⟩
    rw [hkept]
  · rw [hwrite, if_neg fun he => hedge ((systemResetEdge_iff _ _).1 he)]

end Sys2Proof.Machine
end

section
/-! PROOFS. The receive FIFO as a ring (spec/10_state.md R42, spec/43_midi.md R183-R187): what an instruction can do to it,
that unread slots keep their flags (O42), and that it is a queue of its unread bytes (O41). -/

namespace Sys2Proof.Machine

/-! ## Cursors of the ring

`w - r` is how many slots are unread for the read cursor `r` and the write cursor `w`; `r + k` is unread slot `k`. -/

section Ring

variable {r w k : Fin 16}

theorem val_add_eq (r k : Fin 16) : (r + k).val = (r.val + k.val) % 16 := rfl

theorem val_sub_eq (w r : Fin 16) : (w - r).val = (16 - r.val + w.val) % 16 := rfl

theorem val_one_eq : (1 : Fin 16).val = 1 := rfl

/-- A push makes one more slot unread where one is left. -/
theorem unread_push (h : (w - r).val < 15) : (w + 1 - r).val = (w - r).val + 1 := by
  simp only [val_add_eq, val_sub_eq, val_one_eq] at *
  omega

/-- A pop leaves one slot less unread. -/
theorem unread_pop (h : r ≠ w) : (w - r).val = (w - (r + 1)).val + 1 := by
  simp only [ne_eq, Fin.ext_iff, val_add_eq, val_sub_eq, val_one_eq] at *
  omega

/-- The write cursor stands past the unread slots. -/
theorem slot_ne_wcur (h : k.val < (w - r).val) : r + k ≠ w := by
  simp only [ne_eq, Fin.ext_iff, val_add_eq, val_sub_eq] at *
  omega

/-- A push makes no slot unread but the one at the write cursor. -/
theorem unread_of_push (h : k.val < (w + 1 - r).val) (hne : r + k ≠ w) : k.val < (w - r).val := by
  simp only [ne_eq, Fin.ext_iff, val_add_eq, val_sub_eq, val_one_eq] at *
  omega

/-- The slots unread after a pop were unread before it, past the first one. -/
theorem unread_of_pop (hne : r ≠ w) (h : k.val < (w - (r + 1)).val) : (1 + k).val < (w - r).val ∧ r ≠ r + (1 + k) := by
  simp only [ne_eq, Fin.ext_iff, val_add_eq, val_sub_eq, val_one_eq] at *
  omega

/-- After a pop the slots are numbered from the next one on. -/
theorem slot_succ (r : Fin 16) (k : Nat) : r + Fin.ofNat 16 (k + 1) = r + 1 + Fin.ofNat 16 k := by
  simp only [Fin.ext_iff, val_add_eq, val_one_eq, Fin.val_ofNat]
  omega

end Ring

/-! ## What an instruction can do to the FIFO -/

/-- Slots, flags and cursors are the same in both states. -/
structure FifoKept (s s' : State) : Prop where
  fifo : s'.fifo = s.fifo
  valid : s'.valid = s.valid
  rcur : s'.rcur = s.rcur
  wcur : s'.wcur = s.wcur

/-- The instruction empties the FIFO: a soft reset, a reset of the block, or CONSTRUCT (R177, R270, R272). -/
def EmptiesFifo (s : State) (i : Instr) : Prop :=
  (∃ v t, i = .outMidiCtrl v t ∧ v.getLsbD 5 = true ∧ v.getLsbD 6 = true) ∨ ResetsDevice s i ∨ ∃ p, i = .construct p

/-- What an instruction can do to the FIFO. -/
inductive FifoEffect (s s' : State) : Instr → Prop
  /-- nothing -/
  | kept {i : Instr} (h : FifoKept s s') : FifoEffect s s' i
  /-- a pop, by a read of either port (R183) -/
  | popped {i : Instr} {t : Nat} (hi : i = .inMidiData t ∨ i = .inMidiDataAlias t) (hne : s.rcur ≠ s.wcur)
      (h : FifoKept { s with valid := s.valid.set s.rcur false, rcur := s.rcur + 1 } s') : FifoEffect s s' i
  /-- a push, by an incoming byte (R186) -/
  | pushed {b : Byte} {t : Nat} (hp : s.midiPassthrough = true)
      (h : FifoKept
        { s with fifo := s.fifo.set s.wcur b, valid := s.valid.set s.wcur true, wcur := s.wcur + 1 } s') :
      FifoEffect s s' (.midiIn b t)
  /-- no byte unread any more -/
  | emptied {i : Instr} (hi : EmptiesFifo s i) (h : s'.rcur = s'.wcur) : FifoEffect s s' i

/-- The producer that ends a pop leaves the FIFO alone. -/
theorem midiPop_fifo (s : State) :
    FifoKept { s with valid := s.valid.set s.rcur false, rcur := s.rcur + 1 } s.midiPop := by
  rw [midiPop_eq, produce_eq]
  exact ⟨rfl, rfl, rfl, rfl⟩

/-- The producer that ends a push leaves the FIFO alone. -/
theorem midiPush_fifo (s : State) (b : Byte) :
    FifoKept { s with fifo := s.fifo.set s.wcur b, valid := s.valid.set s.wcur true, wcur := s.wcur + 1 }
      (s.midiPush b) := by
  rw [midiPush_eq, produce_eq]
  exact ⟨rfl, rfl, rfl, rfl⟩

theorem deviceReset_rcur_eq_wcur (s : State) (t : Nat) : (s.deviceReset t).rcur = (s.deviceReset t).wcur := by
  rw [deviceReset_rcur, deviceReset_wcur]

/-- All but MIDI reads and bytes, the soft reset, resets and CONSTRUCT leave the FIFO alone. -/
theorem StepEffect.fifo {s s' : State} {i : Instr} (h : StepEffect s i s') : FifoEffect s s' i := by
  cases h with
  | plain h => rw [h.frame]; exact .kept ⟨rfl, rfl, rfl, rfl⟩
  | baseSelect _ => exact .kept ⟨rfl, rfl, rfl, rfl⟩
  | dmaSelect _ => exact .kept ⟨rfl, rfl, rfl, rfl⟩
  | irqSelect _ => exact .kept ⟨rfl, rfl, rfl, rfl⟩
  | statusClear _ => exact .kept ⟨rfl, rfl, rfl, rfl⟩
  | pcmCtrl _ => exact .kept ⟨rfl, rfl, rfl, rfl⟩
  | flushStore _ _ => rw [flush_eq]; exact .kept ⟨rfl, rfl, rfl, rfl⟩
  | timerRead _ => rw [timerRead_eq]; exact .kept ⟨rfl, rfl, rfl, rfl⟩
  | timerWrite _ => rw [timerWrite_eq]; exact .kept ⟨rfl, rfl, rfl, rfl⟩
  | midiSend _ _ => rw [midiSend_eq, produce_eq]; exact .kept ⟨rfl, rfl, rfl, rfl⟩
  | @midiRead i t _ hi =>
    rw [midiRead_eq]
    split
    · exact .kept ⟨rfl, rfl, rfl, rfl⟩
    · next hne => exact .popped hi hne { midiPop_fifo (s.enter t) with }
  | @midiPush b t _ hp => exact .pushed hp { midiPush_fifo (s.enter t) b with }
  | @softReset v t _ hr =>
    rw [midiEval_eq, produce_eq]
    exact .emptied (.inl ⟨v, t, rfl, (softReset_iff v).1 hr⟩) rfl
  | tick _ => rw [tickOp_frame]; exact .kept ⟨rfl, rfl, rfl, rfl⟩
  | pullPcm _ => rw [flush_eq]; exact .kept ⟨rfl, rfl, rfl, rfl⟩
  | @hostReset t _ =>
    exact .emptied (.inr (.inl (.inl ⟨t, rfl⟩))) (deviceReset_rcur_eq_wcur (s.enter t) t)
  | @systemReset v t _ hv hold =>
    exact .emptied (.inr (.inl (.inr ⟨v, t, rfl, hv, hold⟩)))
      (deviceReset_rcur_eq_wcur (s.enter t) t)
  | @construct p _ => exact .emptied (.inr (.inr ⟨p, rfl⟩)) rfl

/-! ## Unread slots keep their flags -/

theorem FifoKept.unreadCount {s s' : State} (h : FifoKept s s') : s'.unreadCount = s.unreadCount := by
  rw [State.unreadCount, State.unreadCount, h.rcur, h.wcur]

theorem FifoKept.unreadSlotsValid {s s' : State} (h : FifoKept s s') (hs : UnreadSlotsValid s) :
    UnreadSlotsValid s' := by
  intro k hk
  rw [h.unreadCount] at hk
  simpa only [h.valid, h.rcur] using hs k hk

theorem unreadSlotsValid_pop {s : State} (hne : s.rcur ≠ s.wcur) (hs : UnreadSlotsValid s) :
    UnreadSlotsValid { s with valid := s.valid.set s.rcur false, rcur := s.rcur + 1 } := by
  intro k hk
  obtain ⟨hunread, hslot⟩ := unread_of_pop hne hk
  have hassoc : s.rcur + 1 + k = s.rcur + (1 + k) := add_assoc ..
  simp only [hassoc]
  rw [Vector.getElem_set_ne _ _ (Fin.val_ne_of_ne hslot)]
  exact hs (1 + k) hunread

theorem unreadSlotsValid_push {s : State} (b : Byte) (hs : UnreadSlotsValid s) :
    UnreadSlotsValid
      { s with fifo := s.fifo.set s.wcur b, valid := s.valid.set s.wcur true, wcur := s.wcur + 1 } := by
  intro k hk
  by_cases hslot : s.rcur + k = s.wcur
  · simp only [hslot, Vector.getElem_set_self]
  · rw [Vector.getElem_set_ne _ _ (Fin.val_ne_of_ne (Ne.symm hslot))]
    exact hs k (unread_of_push hk hslot)

/-- An empty FIFO has no unread slot. -/
theorem unreadCount_eq_zero {s : State} (h : s.rcur = s.wcur) : s.unreadCount = 0 := by
  rw [State.unreadCount, h, sub_self]
  rfl

theorem unreadSlotsValid_of_exec {s s' : State} {i : Instr} (hs : UnreadSlotsValid s) (h : exec i s = .next s') :
    UnreadSlotsValid s' := by
  cases (exec_effect h).fifo with
  | kept hf => exact hf.unreadSlotsValid hs
  | popped _ hne hf => exact hf.unreadSlotsValid (unreadSlotsValid_pop hne hs)
  | pushed _ hf => exact hf.unreadSlotsValid (unreadSlotsValid_push _ hs)
  | emptied _ hempty =>
    intro k hk
    rw [unreadCount_eq_zero hempty] at hk
    exact absurd hk (Nat.not_lt_zero _)

/-- Settles O42: a step executes one instruction, if any, and the event it takes is not in the FIFO. -/
theorem unreadSlotsStayValid : Obligations.UnreadSlotsStayValid := by
  intro s s' hs h
  obtain ⟨-, rfl⟩ | ⟨e, rest, i, -, -, hexec⟩ := step_next_cases h
  · exact hs
  · have hrest : UnreadSlotsValid { s with env := { s.env with inputs := rest } } := hs
    exact unreadSlotsValid_of_exec hrest hexec

end Sys2Proof.Machine
end

section
/-! PROOFS. The receive FIFO is a queue of its unread bytes (spec/10_state.md R42, spec/43_midi.md R183-R186): O41. -/

namespace Sys2Proof.Machine

open Host (Outcome)

/-! ## The queue under a push and a pop -/

theorem FifoKept.unread {s s' : State} (h : FifoKept s s') : s'.unread = s.unread :=
  unread_congr h.rcur h.wcur h.fifo

/-- A queue with a first byte is one whose cursors differ. -/
theorem rcur_ne_wcur_of_unread {s : State} {b : Byte} {rest : List Byte} (h : s.unread = b :: rest) :
    s.rcur ≠ s.wcur := by
  intro heq
  have hlen := unread_length s
  rw [h, unreadCount_eq_zero heq] at hlen
  exact absurd hlen (Nat.succ_ne_zero _)

/-- With fewer than 15 unread a push appends its byte: the new slot is past the unread ones, which it leaves. -/
theorem unread_midiPush {s : State} (b : Byte) (h : s.unread.length < 15) :
    (s.midiPush b).unread = s.unread ++ [b] := by
  rw [unread_length] at h
  rw [(midiPush_fifo s b).unread]
  have hslot (k : Nat) (hk : k < s.unreadCount) : s.wcur ≠ s.rcur + Fin.ofNat Config.fifoDepth k := by
    have hval : (Fin.ofNat 16 k).val = k := Nat.mod_eq_of_lt (by omega)
    exact (slot_ne_wcur (hval.trans_lt hk)).symm
  have hlast : s.rcur + Fin.ofNat Config.fifoDepth s.unreadCount = s.wcur := by
    rw [State.unreadCount, Fin.ofNat_val_eq_self, add_sub_cancel]
  have hcount : State.unreadCount
      { s with fifo := s.fifo.set s.wcur b, valid := s.valid.set s.wcur true, wcur := s.wcur + 1 } =
      s.unreadCount + 1 := unread_push h
  rw [State.unread, hcount, List.range_succ, List.map_append, State.unread]
  congr 1
  · refine List.map_congr_left fun k hk => ?_
    exact Vector.getElem_set_ne s.wcur.isLt (Fin.isLt _) (Fin.val_ne_of_ne (hslot k (List.mem_range.1 hk)))
  · simp only [List.map_cons, List.map_nil, hlast, Vector.getElem_set_self]

/-- The queue is the byte at the read cursor and the queue that a pop leaves. -/
theorem unread_eq_cons_midiPop {s : State} (h : s.rcur ≠ s.wcur) :
    s.unread = s.fifo[s.rcur] :: s.midiPop.unread := by
  rw [(midiPop_fifo s).unread]
  have hcount : s.unreadCount =
      State.unreadCount { s with valid := s.valid.set s.rcur false, rcur := s.rcur + 1 } + 1 := unread_pop h
  have hfirst : s.rcur + Fin.ofNat Config.fifoDepth 0 = s.rcur := add_zero _
  rw [State.unread, hcount, List.range_succ_eq_map, List.map_cons, List.map_map]
  congr 1
  · simp only [hfirst, Fin.getElem_fin]
  · refine List.map_congr_left fun k _ => ?_
    simp only [Function.comp_apply, Nat.succ_eq_add_one, slot_succ]

/-! ## One access -/

theorem exec_midiIn {s : State} {t : Nat} (b : Byte) (ha : Admitted s t) (hp : s.midiPassthrough = true) :
    exec (.midiIn b t) s = .next ((s.enter t).midiPush b) := by
  unfold exec
  exact (access_of_admitted _ ha).trans (congrArg Outcome.next (if_pos hp))

theorem exec_inMidiData {s : State} {t : Nat} (ha : Admitted s t) :
    exec (.inMidiData t) s = .next (s.enter t).midiRead := by
  unfold exec
  exact access_of_admitted _ ha

theorem exec_inMidiDataAlias {s : State} {t : Nat} (ha : Admitted s t) :
    exec (.inMidiDataAlias t) s = .next (s.enter t).midiRead := by
  unfold exec
  exact access_of_admitted _ ha

/-- A read of a queue with data returns the head and removes it (R183). -/
theorem midiRead_of_unread {s : State} {b : Byte} {rest : List Byte} (h : s.unread = b :: rest) :
    s.midiRead.env.reply = .byte b ∧ s.midiRead.unread = rest := by
  have hne := rcur_ne_wcur_of_unread h
  obtain ⟨hhead, hrest⟩ := List.cons.inj ((unread_eq_cons_midiPop hne).symm.trans h)
  rw [midiRead_eq, if_neg hne]
  exact ⟨congrArg Reply.byte hhead, hrest⟩

/-- Nothing but a push, a pop and what empties the FIFO changes the queue. -/
theorem unread_of_exec {s s' : State} {i : Instr} (h : exec i s = .next s')
    (hpush : ∀ b t, i = .midiIn b t → s.midiPassthrough = false) (hdata : ∀ t, i ≠ .inMidiData t)
    (hport : ∀ t, i ≠ .inMidiDataAlias t) (hempty : ¬ EmptiesFifo s i) : s'.unread = s.unread := by
  cases (exec_effect h).fifo with
  | kept hf => exact hf.unread
  | popped hi _ _ => exact absurd hi (not_or.2 ⟨hdata _, hport _⟩)
  | pushed hp _ => exact absurd (hp.symm.trans (hpush _ _ rfl)) Bool.true_eq_false.mp
  | emptied hi _ => exact absurd hi hempty

/-! ## Runs -/

theorem execAll_cons {i : Instr} {s s' : State} (is : List Instr) (h : exec i s = .next s') :
    execAll (i :: is) s = execAll is s' := by
  rw [execAll, h]

/-- The first of a run of admitted steps is admitted. -/
theorem AdmittedRun.head {s : State} {t : Nat} {ts : List Nat} (h : AdmittedRun s (t :: ts)) : Admitted s t := by
  obtain ⟨hc, hsorted, hle⟩ := h
  exact ⟨hc, List.rel_of_pairwise_cons hsorted List.mem_cons_self, hle t List.mem_cons_self⟩

/-- The others are admitted after it. -/
theorem AdmittedRun.tail {s s' : State} {t : Nat} {ts : List Nat} (h : AdmittedRun s (t :: ts))
    (hclosed : s'.closed = s.closed) (hcursor : s'.env.cursor = t) (hlen : s'.bufLen = s.bufLen) :
    AdmittedRun s' ts := by
  obtain ⟨hc, hsorted, hle⟩ := h
  refine ⟨hclosed.trans hc, hcursor.symm ▸ hsorted.tail, fun u hu => ?_⟩
  exact (hle u (List.mem_cons_of_mem t hu)).trans_eq hlen.symm

/-- Admitted pushes that fit append their bytes and leave the block ready for what follows. -/
theorem execAll_pushes (pushes : List (Byte × Nat)) (ts : List Nat) (s : State)
    (hrun : AdmittedRun s (pushes.map Prod.snd ++ ts)) (hp : s.midiPassthrough = true)
    (hfit : s.unread.length + pushes.length ≤ 15) :
    ∃ s', AdmittedRun s' ts ∧ s'.unread = s.unread ++ pushes.map Prod.fst ∧
      ∀ is, execAll ((pushes.map fun p => .midiIn p.1 p.2) ++ is) s = execAll is s' := by
  induction pushes generalizing s with
  | nil => exact ⟨s, hrun, by simp, fun _ => rfl⟩
  | cons p pushes ih =>
    obtain ⟨b, t⟩ := p
    rw [List.length_cons] at hfit
    have hunread : ((s.enter t).midiPush b).unread = s.unread ++ [b] :=
      unread_midiPush (s := s.enter t) b (show s.unread.length < 15 by omega)
    obtain ⟨s', hrun', hunread', hexec⟩ := ih ((s.enter t).midiPush b) (hrun.tail rfl rfl rfl) hp
      (by rw [hunread, List.length_append, List.length_singleton]; omega)
    refine ⟨s', hrun', by simp [hunread', hunread], fun is => ?_⟩
    exact (execAll_cons _ (exec_midiIn b hrun.head hp)).trans (hexec is)

/-- The last of a run of admitted reads returns the byte at its place in the queue. -/
theorem execAll_reads (reads : List Nat) (s : State) (b : Byte) (hrun : AdmittedRun s reads) (hne : reads ≠ [])
    (hb : s.unread[reads.length - 1]? = some b) :
    ∃ s', execAll (reads.map .inMidiData) s = .next s' ∧ s'.env.reply = .byte b := by
  induction reads generalizing s with
  | nil => exact absurd rfl hne
  | cons t reads ih =>
    obtain ⟨x, rest, hunread⟩ : ∃ x rest, s.unread = x :: rest :=
      List.exists_cons_of_ne_nil fun hnil => by simp [hnil] at hb
    obtain ⟨hreply, hrest⟩ := midiRead_of_unread (s := s.enter t) hunread
    rw [List.map_cons, execAll_cons _ (exec_inMidiData hrun.head)]
    cases reads with
    | nil =>
      obtain rfl : x = b := by simpa [hunread] using hb
      exact ⟨_, rfl, hreply⟩
    | cons u reads =>
      have hrun' : AdmittedRun (s.enter t).midiRead (u :: reads) := by
        rw [midiRead_frame]
        exact hrun.tail rfl rfl rfl
      exact ih _ hrun' (List.cons_ne_nil _ _) (by simpa [hrest, hunread] using hb)

/-- Settles O41: the queue under a push, under a read and under everything else, and by induction over the pushes and over
the reads the byte that the last read of a run returns. -/
theorem fifoReturnsBytesInOrder : Obligations.FifoReturnsBytesInOrder := by
  refine ⟨?push, ?read, ?frame, ?run⟩
  case push =>
    intro s b t ha hp hlt
    exact ⟨_, exec_midiIn b ha hp, unread_midiPush (s := s.enter t) b hlt⟩
  case read =>
    intro s t b rest ha hunread i hi
    have hread := midiRead_of_unread (s := s.enter t) hunread
    simp only [List.mem_cons, List.not_mem_nil, or_false] at hi
    obtain rfl | rfl := hi
    · exact ⟨_, exec_inMidiData ha, hread⟩
    · exact ⟨_, exec_inMidiDataAlias ha, hread⟩
  case frame =>
    intro s s' i h hpush hdata hport hsoft hreset hedge hnew
    refine unread_of_exec h hpush hdata hport ?_
    rintro (⟨v, t, rfl, hv⟩ | (⟨t, rfl⟩ | ⟨v, t, rfl, hv⟩) | ⟨p, rfl⟩)
    · exact hsoft v t rfl hv
    · exact hreset t rfl
    · exact hedge v t rfl hv
    · exact hnew p rfl
  case run =>
    intro s pushes reads b hrun hp hfit hne hb
    obtain ⟨s', hrun', hunread, hexec⟩ := execAll_pushes pushes reads s hrun hp hfit
    rw [hexec]
    exact execAll_reads reads s' b hrun' hne (hunread ▸ hb)

end Sys2Proof.Machine
end

section
/-! PROOFS. Accesses wider than a byte (spec/20_memory.md R54): the bytes of a value, low byte first, and O9. -/

namespace Sys2Proof

/-- The low `k` bytes of `v`, low byte first: what a wide write of `v` sends, in the order it sends them (R54). -/
def wideBytes (k v : Nat) : List Byte :=
  (List.range k).map fun i => BitVec.ofNat 8 (v / 2 ^ (8 * i))

@[simp] theorem wideBytes_length (k v : Nat) : (wideBytes k v).length = k := by
  simp [wideBytes]

theorem wideBytes_getD {k i : Nat} (v : Nat) (hi : i < k) :
    (wideBytes k v).getD i 0#8 = BitVec.ofNat 8 (v / 2 ^ (8 * i)) := by
  simp [wideBytes, hi]

/-- The first byte is the low one; the others are the bytes of the value shifted down by one byte. -/
theorem wideBytes_succ (k v : Nat) : wideBytes (k + 1) v = BitVec.ofNat 8 v :: wideBytes k (v / 256) := by
  have hshift (i : Nat) : v / 2 ^ (8 * (i + 1)) = v / 256 / 2 ^ (8 * i) := by
    rw [Nat.div_div_eq_div_mul, Nat.mul_succ, Nat.add_comm, Nat.pow_add]
  simp [wideBytes, List.range_succ_eq_map, Function.comp_def, hshift]

/-- The bytes assemble to the part of the value that `k` bytes hold, by induction on the bytes from the low one up. -/
theorem assembleWide_wideBytes (k v : Nat) : assembleWide (wideBytes k v) = v % 2 ^ (8 * k) := by
  induction k generalizing v with
  | zero => exact (Nat.mod_one v).symm
  | succ k ih =>
    calc assembleWide (wideBytes (k + 1) v)
      _ = v % 256 + 256 * (v / 256 % 2 ^ (8 * k)) := by
        rw [wideBytes_succ, assembleWide, ih, BitVec.toNat_ofNat]
      _ = v % (256 * 2 ^ (8 * k)) := Nat.mod_mul.symm
      _ = v % 2 ^ (8 * (k + 1)) := by rw [Nat.mul_succ, Nat.add_comm, Nat.pow_add]

theorem wideWrite_getElem? {k i : Nat} (port : Port) (v t : Nat) (hi : i < k) :
    (wideWrite port k v t)[i]? = some (.ioWrite (port + BitVec.ofNat 16 i) ((wideBytes k v).getD i 0#8) t) := by
  rw [wideBytes_getD v hi]
  simp [wideWrite, hi]

@[simp] theorem wideWrite_length (port : Port) (k v t : Nat) : (wideWrite port k v t).length = k := by
  simp [wideWrite]

theorem wideRead_getElem? {k i : Nat} (port : Port) (t : Nat) (hi : i < k) :
    (wideRead port k t)[i]? = some (.ioRead (port + BitVec.ofNat 16 i) t) := by
  simp [wideRead, hi]

/-- Settles O9: the bytes are those of `v`, low byte first, and a `v` below `2 ^ (8 * k)` is what they assemble to. -/
theorem wideAccessIsLowByteFirst : Obligations.WideAccessIsLowByteFirst := by
  intro port k v t hv
  have hassemble : assembleWide (wideBytes k v) = v :=
    (assembleWide_wideBytes k v).trans (Nat.mod_eq_of_lt hv)
  exact ⟨wideBytes k v, wideBytes_length k v, hassemble, fun _ => wideWrite_getElem? port v t,
    wideWrite_length port k v t, fun _ => wideRead_getElem? port t⟩

end Sys2Proof
end

section
/-! PROOFS. The step runs what the oldest pending event decodes to (spec/20_memory.md R59), and what reads return: the
stored byte (R56) or a collaborator's answer (R101, R113). O5, O15 and O26. -/

namespace Sys2Proof.Machine

open Host (Outcome)

/-! ## The step -/

theorem step_of_no_input {s : State} (h : s.env.inputs = []) : step s = .next s := by
  simp only [step, h]

/-- The oldest event leaves the queue and what it decodes to is executed (R59, R71). -/
theorem step_of_decode {s : State} {e : HostEvent} {rest : List HostEvent} {i : Instr}
    (hin : s.env.inputs = e :: rest) (hdec : s.decode e = .ok i) :
    step s = exec i { s with env := { s.env with inputs := rest } } := by
  simp only [step, hin, hdec]

/-- Settles O5: the two cases of the queue, and the decoder of a block that is not closed. -/
theorem stepRunsDecodedInstruction : Obligations.StepRunsDecodedInstruction :=
  ⟨fun _ _ _ _ => step_of_decode, fun _ e hc => decode_of_live hc e, fun _ => step_of_no_input⟩

/-! ## Reads of stored bytes -/

/-- An admitted access that returns the byte of `reg`, which the beginning of a step does not change, returns the byte
stored before it and does nothing else. -/
theorem exec_of_storedRead {i : Instr} {s : State} {t : Nat} (reg : State → Byte) (ha : Admitted s t)
    (hexec : exec i s = s.access t fun s => s.returnByte (reg s)) (hreg : reg (s.enter t) = reg s) :
    exec i s = .next ((s.enter t).returning (.byte (reg s))) := by
  rw [hexec, access_of_admitted _ ha, returnByte_eq, hreg]

/-- Settles O15: each read names its register. -/
theorem plainReadsReturnTheStoredByte : Obligations.PlainReadsReturnTheStoredByte := by
  intro s t ha
  simp only [List.forall_mem_cons, List.not_mem_nil, false_imp_iff, implies_true, and_true]
  exact ⟨exec_of_storedRead State.mixer ha rfl rfl,
    exec_of_storedRead State.filter ha rfl rfl,
    exec_of_storedRead State.irqMask ha rfl rfl,
    exec_of_storedRead State.pcmCtrl ha rfl rfl,
    exec_of_storedRead State.scsi ha rfl rfl,
    exec_of_storedRead State.sysConf1 ha rfl rfl,
    exec_of_storedRead State.sysConf2 ha rfl rfl,
    exec_of_storedRead State.sysConf3 ha rfl rfl,
    exec_of_storedRead State.sysConf4 ha rfl rfl,
    exec_of_storedRead State.wait ha rfl rfl,
    exec_of_storedRead State.ioConf1 ha rfl rfl,
    exec_of_storedRead State.ioConf2 ha rfl rfl,
    exec_of_storedRead State.ioConf3 ha rfl rfl,
    exec_of_storedRead State.ioConf4 ha rfl rfl,
    exec_of_storedRead State.compat ha rfl rfl,
    exec_of_storedRead State.compatBase ha rfl rfl,
    exec_of_storedRead State.sbIrqDma ha rfl rfl,
    exec_of_storedRead State.midiCtrl ha rfl rfl,
    exec_of_storedRead State.midiStat ha rfl rfl⟩

/-! ## Reads of the collaborators' windows -/

/-- A draw takes the oldest answer ready (log entry 4). -/
theorem draw_fst_of_ready {α : Type} {ready : List α} (free : Nat → α) (k : Nat) (a : α) (rest : List α)
    (h : ready = a :: rest) : (draw free k ready).1 = a := by
  rw [h, draw_cons]

/-- With no answer ready a draw is the free value of its number (log entry 4). -/
theorem draw_fst_of_none {α : Type} {ready : List α} (free : Nat → α) (k : Nat) (h : ready = []) :
    (draw free k ready).1 = free k := by
  rw [h, draw_nil]

theorem exec_inSynth {s : State} {t : Nat} (off : Port) (ha : Admitted s t) :
    exec (.inSynth off t) s =
      .next (((s.enter t).synthRead off).2.returning (.byte ((s.enter t).synthRead off).1)) := by
  unfold exec
  exact access_of_admitted _ ha

/-- The timer is asked for the register of the offset (R113). -/
theorem exec_inTimer {s : State} {t : Nat} (off : Port) (ha : Admitted s t) :
    exec (.inTimer off t) s =
      .next (((s.enter t).timerRead (off - 0x1388#16)).2.returning
        (.byte ((s.enter t).timerRead (off - 0x1388#16)).1)) := by
  unfold exec
  exact access_of_admitted _ ha

/-- T1 after the timer set it from the oldest setting ready (log entries 4 and 5). -/
theorem drawnT1_of_ready {settings : List TimerSetting} (k : Nat) (a : TimerSetting) (rest : List TimerSetting)
    (h : settings = a :: rest) :
    let c := (draw freeSetting k settings).1.toT1
    c.en = a.en ∧ c.count = (a.countPlusOne.val : Int) - 1 ∧ c.period = a.period ∧ c.repeats = a.repeats := by
  rw [draw_fst_of_ready freeSetting k a rest h]
  exact ⟨rfl, rfl, rfl, rfl⟩

/-- Settles O26: the byte is the draw of the window's collaborator, and T1 the setting drawn after the timer's byte. -/
theorem windowReadsReturnTheAnswer : Obligations.WindowReadsReturnTheAnswer := by
  intro s off t ha
  refine ⟨?synth, ?timer⟩
  case synth =>
    refine ⟨(draw Config.synthByte s.env.drawn s.env.supply.synth).1,
      { s.env.supply with synth := s.env.supply.synth.drop 1 }, ?_, draw_fst_of_ready _ _, draw_fst_of_none _ _⟩
    rw [exec_inSynth off ha, synthRead_eq, draw_snd]
    rfl
  case timer =>
    obtain ⟨hlow, hhigh⟩ := toT1_count_range (draw freeSetting (s.env.drawn + 1) s.env.supply.settings).1
    refine ⟨(draw Config.timerByte s.env.drawn s.env.supply.timer).1, _,
      { s.env.supply with timer := s.env.supply.timer.drop 1, settings := s.env.supply.settings.drop 1 }, ?_,
      hlow, hhigh, drawnT1_of_ready _, draw_fst_of_ready _ _, draw_fst_of_none _ _⟩
    rw [exec_inTimer off ha, timerRead_eq, draw_snd, draw_snd]
    rfl

end Sys2Proof.Machine
end

section
/-! PROOFS. Decoding and encoding (spec/30_encoding.md R71-R79): the canonical offsets of a port, the register map, the
decoder case by case, and that decoding and encoding undo each other. O1, O2 and O4. -/

namespace Sys2Proof

/-! ## Canonical offsets and ports -/

@[simp] theorem canonicalOffset_portOf (base off : Port) : canonicalOffset base (portOf base off) = off := by
  rw [canonicalOffset, portOf]
  ring

@[simp] theorem portOf_canonicalOffset (base port : Port) : portOf base (canonicalOffset base port) = port := by
  rw [canonicalOffset, portOf]
  ring

/-! ## The 4-port windows -/

/-- An offset is the multiple of 4 below it and its two low bits. -/
theorem offset_eq_start_add_low (off : Port) : off = (off &&& 0xFFFC#16) + (off &&& 0x3#16) := by
  have hdisjoint : (off &&& 0xFFFC#16) &&& (off &&& 0x3#16) = 0#16 := by
    calc (off &&& 0xFFFC#16) &&& (off &&& 0x3#16)
      _ = off &&& (0xFFFC#16 &&& 0x3#16) := by ac_rfl
      _ = 0#16 := BitVec.and_zero
  calc off
    _ = off &&& (0xFFFC#16 ||| 0x3#16) := BitVec.and_allOnes.symm
    _ = (off &&& 0xFFFC#16) ||| (off &&& 0x3#16) := BitVec.and_or_distrib_left
    _ = (off &&& 0xFFFC#16) + (off &&& 0x3#16) := (BitVec.add_eq_or_of_and_eq_zero _ _ hdisjoint).symm

theorem low_bits_toNat (off : Port) : (off &&& 0x3#16).toNat = off.toNat % 4 := by
  rw [BitVec.toNat_and]
  exact Nat.and_two_pow_sub_one_eq_mod _ 2

theorem low_bits_cases (off : Port) :
    off &&& 0x3#16 = 0#16 ∨ off &&& 0x3#16 = 1#16 ∨ off &&& 0x3#16 = 2#16 ∨ off &&& 0x3#16 = 3#16 := by
  have h := low_bits_toNat off
  simp only [← BitVec.toNat_inj]
  simp only [h, BitVec.toNat_ofNat]
  omega

theorem and_of_mem_fourFrom {w off : Port} (hw : w ∈ Config.params.windows) (h : off ∈ fourFrom w) :
    off &&& 0xFFFC#16 = w := by
  have hall : (Config.params.windows.all fun w => (fourFrom w).all fun off => off &&& 0xFFFC#16 == w) = true := by
    decide
  exact beq_iff_eq.1 (List.all_eq_true.1 (List.all_eq_true.1 hall w hw) off h)

/-- Every offset is one of the four from the multiple of 4 below it. -/
theorem mem_fourFrom_start (off : Port) : off ∈ fourFrom (off &&& 0xFFFC#16) := by
  have hoff := offset_eq_start_add_low off
  have hlow := low_bits_cases off
  generalize off &&& 0x3#16 = low at hoff hlow
  generalize off &&& 0xFFFC#16 = start at hoff ⊢
  rcases hlow with rfl | rfl | rfl | rfl <;> simp [fourFrom, hoff]

theorem mem_fourFrom_iff {w off : Port} (hw : w ∈ Config.params.windows) :
    off ∈ fourFrom w ↔ off &&& 0xFFFC#16 = w :=
  ⟨and_of_mem_fourFrom hw, fun h => h ▸ mem_fourFrom_start off⟩

/-- The window of an offset is the offset without its two low bits (R150). -/
theorem windowOffset_iff (off : Port) : windowOffset off = true ↔ off &&& 0xFFFC#16 ∈ Config.params.windows := by
  have hfour (w : Port) : (w == off || w + 1 == off || w + 2 == off || w + 3 == off) = true ↔ off ∈ fourFrom w := by
    simp only [fourFrom, Bool.or_eq_true, beq_iff_eq, List.mem_cons, List.not_mem_nil, or_false, or_assoc,
      @eq_comm _ off]
  simp only [windowOffset, List.any_eq_true, hfour]
  constructor
  · rintro ⟨w, hw, hoff⟩
    rwa [(mem_fourFrom_iff hw).1 hoff]
  · exact fun h => ⟨_, h, (mem_fourFrom_iff h).2 rfl⟩

theorem bound_eq_windowOffset (base port : Port) : bound base port = windowOffset (canonicalOffset base port) := by
  rw [Bool.eq_iff_iff, windowOffset_iff, bound, List.contains_iff_mem]

theorem bound_portOf (base off : Port) : bound base (portOf base off) = windowOffset off := by
  rw [bound_eq_windowOffset, canonicalOffset_portOf]

theorem windows_around_baseSelectPort {w : Port} (hw : w ∈ Config.params.windows) :
    w.toNat < 0x998A ∨ 0x9D89 < w.toNat := by
  have hall : (Config.params.windows.all fun w => w.toNat < 0x998A || 0x9D89 < w.toNat) = true := by decide
  simpa using List.all_eq_true.1 hall w hw

theorem toNat_le_of_legalBase {base : Port} (hl : legalBase base = true) : base.toNat ≤ 0x3FC := by
  simp only [legalBase, Bool.and_eq_true, decide_eq_true_eq] at hl
  exact hl.2

/-- No window holds the base-select port, wherever `BASE` stands (R154): its canonical offset is in 0x998D..0x9D89,
between the windows at 0x8388 and at 0xBF88. -/
theorem bound_baseSelectPort {base : Port} (hl : legalBase base = true) :
    bound base Config.params.baseSelectPort = false := by
  have hbase := toNat_le_of_legalBase hl
  rw [bound_eq_windowOffset, ← Bool.not_eq_true, windowOffset_iff]
  intro hw
  have hcases := windows_around_baseSelectPort hw
  have hoff := congrArg BitVec.toNat (offset_eq_start_add_low (canonicalOffset base Config.params.baseSelectPort))
  have hlow := low_bits_toNat (canonicalOffset base Config.params.baseSelectPort)
  have h : (canonicalOffset base Config.params.baseSelectPort).toNat = 0x9D89 - base.toNat := by
    rw [canonicalOffset, Config.baseSelectPort_eq, Config.canonRef_eq]
    bv_omega
  rw [BitVec.toNat_add] at hoff
  omega

/-! ## The register map -/

/-- A row fixes at least all bits above the two low ones, and lies in a window (R73, R150). -/
theorem registerMap_in_windows : ∀ r ∈ registerMap,
    r.mask &&& 0xFFFC#16 = 0xFFFC#16 ∧ r.pattern &&& 0xFFFC#16 ∈ Config.params.windows := by decide

theorem mem_and_matches_of_registerRow {off : Port} {r : RegisterRow} (h : registerRow off = some r) :
    r ∈ registerMap ∧ off &&& r.mask = r.pattern :=
  ⟨List.mem_of_find?_eq_some h, by simpa using List.find?_some h⟩

theorem windowOffset_of_registerRow {off : Port} {r : RegisterRow} (h : registerRow off = some r) :
    windowOffset off = true := by
  obtain ⟨hr, hoff⟩ := mem_and_matches_of_registerRow h
  obtain ⟨hmask, hpat⟩ := registerMap_in_windows r hr
  rwa [← hoff, BitVec.and_assoc, hmask, ← windowOffset_iff] at hpat

/-- The offsets that have a row are those of table 30.2, the two windows with four each (R73). -/
theorem mem_rowOffsets_iff (off : Port) : off ∈ rowOffsets ↔ ∃ r ∈ registerMap, off &&& r.mask = r.pattern := by
  have hmask : off &&& 0xFFFF#16 = off := BitVec.and_allOnes
  have hsynth := mem_fourFrom_iff (off := off) (w := Config.params.offsets.synth) (by decide)
  have htimer := mem_fourFrom_iff (off := off) (w := Config.params.offsets.timer) (by decide)
  simp only [registerMap, List.exists_mem_cons_iff, hmask]
  simp only [rowOffsets, List.mem_append, List.mem_cons, hsynth, htimer, List.not_mem_nil, or_false, false_and,
    exists_false, or_assoc]
  exact iff_of_eq (by ac_rfl)

theorem registerRow_eq_none_iff (off : Port) : registerRow off = none ↔ off ∉ rowOffsets := by
  simp [registerRow, mem_rowOffsets_iff]

/-- The instruction is well-formed and the event is its encoding. -/
def Encodes (base : Port) (e : HostEvent) (i : Instr) : Prop := WellFormed base i = true ∧ encode base i = e

/-- The instructions that a row gives an offset it has are encoded as the accesses of the port where the offset answers
(R153). -/
def RegisterRow.EncodesAt (r : RegisterRow) (off : Port) : Prop :=
  ∀ (base : Port) (v : Byte) (t : Nat),
    Encodes base (.ioRead (portOf base off) t) (r.read off t) ∧
      Encodes base (.ioWrite (portOf base off) v t) (r.write off v t)

/-- A row of one register fixes the whole offset. -/
theorem RegisterRow.encodesAt_of_full_mask {r : RegisterRow} {off : Port} (hmask : r.mask = 0xFFFF#16)
    (hoff : off &&& r.mask = r.pattern) (h : r.EncodesAt r.pattern) : r.EncodesAt off := by
  obtain rfl : off = r.pattern := by rw [← hoff, hmask]; exact BitVec.and_allOnes.symm
  exact h

/-- Of the rows of table 30.2 the first and the ninth are the windows, whose instructions carry the offset. -/
theorem registerMap_encodesAt {off : Port} : ∀ r ∈ registerMap, off &&& r.mask = r.pattern → r.EncodesAt off := by
  intro r hr hoff
  fin_cases hr
  on_goal 9 => exact fun _ _ _ => ⟨⟨beq_iff_eq.2 hoff, rfl⟩, beq_iff_eq.2 hoff, rfl⟩
  on_goal 1 => exact fun _ _ _ => ⟨⟨beq_iff_eq.2 hoff, rfl⟩, beq_iff_eq.2 hoff, rfl⟩
  all_goals exact RegisterRow.encodesAt_of_full_mask rfl hoff fun _ _ _ => ⟨⟨rfl, rfl⟩, rfl, rfl⟩

/-! ## The decoder, case by case -/

section Decoder

variable {base port : Port} {r : RegisterRow} (v : Byte) (t : Nat)

theorem ne_baseSelectPort_of_bound (hl : legalBase base = true) (hb : bound base port = true) :
    port ≠ Config.params.baseSelectPort := by
  rintro rfl
  exact Bool.false_ne_true ((bound_baseSelectPort hl).symm.trans hb)

theorem bound_of_registerRow (hr : registerRow (canonicalOffset base port) = some r) : bound base port = true := by
  rw [bound_eq_windowOffset, windowOffset_of_registerRow hr]

theorem missedRead_baseSelectPort : missedRead Config.params.baseSelectPort t = .inBaseSelect t := if_pos rfl

theorem missedRead_of_ne (hp : port ≠ Config.params.baseSelectPort) : missedRead port t = .unbound port none t :=
  if_neg hp

theorem decodeRead_of_row (hr : registerRow (canonicalOffset base port) = some r) :
    decodeRead base port t = r.read (canonicalOffset base port) t := by
  rw [decodeRead, if_pos (bound_of_registerRow hr), hr]

theorem decodeRead_of_no_row (hb : bound base port = true) (hr : registerRow (canonicalOffset base port) = none) :
    decodeRead base port t = .inUnmapped (canonicalOffset base port) t := by
  rw [decodeRead, if_pos hb, hr]

theorem decodeRead_of_not_bound (hb : bound base port = false) : decodeRead base port t = missedRead port t := by
  rw [decodeRead, if_neg (ne_true_of_eq_false hb)]

theorem decodeWrite_baseSelectPort :
    decodeWrite base Config.params.baseSelectPort v t = .outBaseSelect v t := if_pos rfl

theorem decodeWrite_of_row (hl : legalBase base = true) (hr : registerRow (canonicalOffset base port) = some r) :
    decodeWrite base port v t = r.write (canonicalOffset base port) v t := by
  have hb := bound_of_registerRow hr
  rw [decodeWrite, if_neg (ne_baseSelectPort_of_bound hl hb), if_pos hb, hr]

theorem decodeWrite_of_no_row (hl : legalBase base = true) (hb : bound base port = true)
    (hr : registerRow (canonicalOffset base port) = none) :
    decodeWrite base port v t = .outUnmapped (canonicalOffset base port) v t := by
  rw [decodeWrite, if_neg (ne_baseSelectPort_of_bound hl hb), if_pos hb, hr]

theorem decodeWrite_of_not_bound (hp : port ≠ Config.params.baseSelectPort) (hb : bound base port = false) :
    decodeWrite base port v t = .unbound port (some v) t := by
  rw [decodeWrite, if_neg hp, if_neg (ne_true_of_eq_false hb)]

end Decoder

/-! ## From the instruction to its event and back -/

section Decode

variable {base off : Port} {r : RegisterRow} {i : Instr} {v : Byte} {t : Nat}

theorem decode_encode_of_readRow (henc : encode base i = .ioRead (portOf base off) t)
    (hrow : registerRow off = some r) (hi : r.read off t = i) : decode base (encode base i) = .ok i := by
  rw [henc, decode, decodeRead_of_row t (by rwa [canonicalOffset_portOf]), canonicalOffset_portOf, hi]

theorem decode_encode_of_writeRow (hl : legalBase base = true)
    (henc : encode base i = .ioWrite (portOf base off) v t) (hrow : registerRow off = some r)
    (hi : r.write off v t = i) : decode base (encode base i) = .ok i := by
  rw [henc, decode, decodeWrite_of_row v t hl (by rwa [canonicalOffset_portOf]), canonicalOffset_portOf, hi]

theorem registerRow_synth (h : off &&& 0xFFFC#16 = Config.params.offsets.synth) :
    registerRow off = some ⟨Config.params.offsets.synth, 0xFFFC#16, .inSynth, .outSynth⟩ := by
  simp [registerRow, registerMap, h]

/-- The four offsets of the timer window have the ninth row, for none of the eight before it has them (R149). -/
theorem registerRow_timer (h : off &&& 0xFFFC#16 = Config.params.offsets.timer) :
    registerRow off = some ⟨Config.params.offsets.timer, 0xFFFC#16, .inTimer, .outTimer⟩ := by
  have hoff := (mem_fourFrom_iff (by decide)).2 h
  fin_cases hoff <;> rfl

/-- An unmapped read has an offset of a window that no row has (R146). -/
theorem wellFormed_inUnmapped_iff (base off : Port) (t : Nat) :
    WellFormed base (.inUnmapped off t) = true ↔ windowOffset off = true ∧ registerRow off = none := by
  simp [WellFormed, registerRow_eq_none_iff]

/-- As an unmapped read (R147). -/
theorem wellFormed_outUnmapped_iff (base off : Port) (v : Byte) (t : Nat) :
    WellFormed base (.outUnmapped off v t) = true ↔ windowOffset off = true ∧ registerRow off = none :=
  wellFormed_inUnmapped_iff base off t

/-- An unbound access has a port that the decoder finds neither bound nor the base-select port (R148). -/
theorem wellFormed_unbound_iff (base port : Port) (data : Option Byte) (t : Nat) :
    WellFormed base (.unbound port data t) = true ↔
      port ≠ Config.params.baseSelectPort ∧ bound base port = false := by
  rw [bound_eq_windowOffset, canonicalOffset]
  simp [WellFormed]

/-- The windows and what has no row in the register map come first; every other instruction is an access of one
register. -/
theorem decode_encode (hl : legalBase base = true) (hw : WellFormed base i = true) :
    decode base (encode base i) = .ok i := by
  cases i with
  | inSynth off t => exact decode_encode_of_readRow rfl (registerRow_synth (beq_iff_eq.1 hw)) rfl
  | outSynth off v t => exact decode_encode_of_writeRow hl rfl (registerRow_synth (beq_iff_eq.1 hw)) rfl
  | inTimer off t => exact decode_encode_of_readRow rfl (registerRow_timer (beq_iff_eq.1 hw)) rfl
  | outTimer off v t => exact decode_encode_of_writeRow hl rfl (registerRow_timer (beq_iff_eq.1 hw)) rfl
  | inUnmapped off t =>
    obtain ⟨hoff, hrow⟩ := (wellFormed_inUnmapped_iff base off t).1 hw
    rw [encode, decode, decodeRead_of_no_row t (by rwa [bound_portOf]) (by rwa [canonicalOffset_portOf]),
      canonicalOffset_portOf]
  | outUnmapped off v t =>
    obtain ⟨hoff, hrow⟩ := (wellFormed_outUnmapped_iff base off v t).1 hw
    rw [encode, decode, decodeWrite_of_no_row v t hl (by rwa [bound_portOf]) (by rwa [canonicalOffset_portOf]),
      canonicalOffset_portOf]
  | unbound port data t =>
    obtain ⟨hp, hb⟩ := (wellFormed_unbound_iff base port data t).1 hw
    cases data with
    | none => rw [encode, decode, decodeRead_of_not_bound t hb, missedRead_of_ne t hp]
    | some v => rw [encode, decode, decodeWrite_of_not_bound v t hp hb]
  | outBaseSelect v t => rw [encode, decode, decodeWrite_baseSelectPort]
  | inBaseSelect t =>
    rw [encode, decode, decodeRead_of_not_bound t (bound_baseSelectPort hl), missedRead_baseSelectPort]
  | pullPcm n acc t | pullSynth n acc t => exact if_pos (beq_iff_eq.1 hw)
  | tick | midiIn | hostReset | construct | close => rfl
  | outMixer | outIrqStat | outFilter | outIrqMask | outPcmDataLo | outPcmDataHi | outPcmCtrl | outMidiCtrl
    | outMidiData | outMidiDataAlias | outMidiStat | outBoardRev | outScsi | outSysConf1 | outSysConf2 | outSysConf3
    | outSysConf4 | outWait | outIoConf1 | outIoConf2 | outIoConf3 | outIoConf4 | outCompat | outCompatBase
    | outSbIrqDma | outBoardId => exact decode_encode_of_writeRow hl rfl rfl rfl
  | _ => exact decode_encode_of_readRow rfl rfl rfl

end Decode

/-! ## From the event to its instruction and back -/

/-- What a port can be to the block: one where a row of the register map answers, one that is bound but has no row, the
base-select port, or one in no window. -/
inductive PortKind (base port : Port) : Prop where
  | row (r : RegisterRow) (row : registerRow (canonicalOffset base port) = some r)
  | unmapped (bound : bound base port = true) (no_row : registerRow (canonicalOffset base port) = none)
  | baseSelect (port_eq : port = Config.params.baseSelectPort) (not_bound : bound base port = false)
  | unbound (port_ne : port ≠ Config.params.baseSelectPort) (not_bound : bound base port = false)

theorem portKind {base : Port} (port : Port) : PortKind base port := by
  cases hb : bound base port with
  | true =>
    cases hr : registerRow (canonicalOffset base port) with
    | some r => exact .row r hr
    | none => exact .unmapped hb hr
  | false =>
    by_cases hp : port = Config.params.baseSelectPort
    · exact .baseSelect hp hb
    · exact .unbound hp hb

section Encode

variable {base port : Port}

theorem encodes_of_row {r : RegisterRow} (hr : registerRow (canonicalOffset base port) = some r) (v : Byte) (t : Nat) :
    Encodes base (.ioRead port t) (r.read (canonicalOffset base port) t) ∧
      Encodes base (.ioWrite port v t) (r.write (canonicalOffset base port) v t) := by
  obtain ⟨hmem, hoff⟩ := mem_and_matches_of_registerRow hr
  have h := registerMap_encodesAt r hmem hoff base v t
  rwa [portOf_canonicalOffset] at h

theorem encodes_decodeRead (t : Nat) : Encodes base (.ioRead port t) (decodeRead base port t) := by
  cases portKind (base := base) port with
  | row r hr => rw [decodeRead_of_row t hr]; exact (encodes_of_row hr 0#8 t).1
  | unmapped hb hr =>
    rw [decodeRead_of_no_row t hb hr]
    exact ⟨(wellFormed_inUnmapped_iff base _ t).2 ⟨bound_eq_windowOffset base port ▸ hb, hr⟩,
      by rw [encode, portOf_canonicalOffset]⟩
  | baseSelect hp hb =>
    rw [decodeRead_of_not_bound t hb, hp, missedRead_baseSelectPort]
    exact ⟨rfl, rfl⟩
  | unbound hp hb =>
    rw [decodeRead_of_not_bound t hb, missedRead_of_ne t hp]
    exact ⟨(wellFormed_unbound_iff base port _ t).2 ⟨hp, hb⟩, rfl⟩

theorem encodes_decodeWrite (hl : legalBase base = true) (v : Byte) (t : Nat) :
    Encodes base (.ioWrite port v t) (decodeWrite base port v t) := by
  cases portKind (base := base) port with
  | row r hr => rw [decodeWrite_of_row v t hl hr]; exact (encodes_of_row hr v t).2
  | unmapped hb hr =>
    rw [decodeWrite_of_no_row v t hl hb hr]
    exact ⟨(wellFormed_outUnmapped_iff base _ v t).2 ⟨bound_eq_windowOffset base port ▸ hb, hr⟩,
      by rw [encode, portOf_canonicalOffset]⟩
  | baseSelect hp hb => rw [hp, decodeWrite_baseSelectPort]; exact ⟨rfl, rfl⟩
  | unbound hp hb =>
    rw [decodeWrite_of_not_bound v t hp hb]
    exact ⟨(wellFormed_unbound_iff base port _ t).2 ⟨hp, hb⟩, rfl⟩

theorem encodes_of_decode {e : HostEvent} {i : Instr} (hl : legalBase base = true) (h : decode base e = .ok i) :
    Encodes base e i := by
  cases e with
  | ioRead port t => cases h; exact encodes_decodeRead t
  | ioWrite port v t => cases h; exact encodes_decodeWrite hl v t
  | pullPcm n acc t | pullSynth n acc t =>
    rw [decode] at h
    split at h
    · next hacc => cases h; exact ⟨beq_iff_eq.2 hacc, rfl⟩
    · cases h
  | tick | midiIn | hostReset | construct | close => cases h; exact ⟨rfl, rfl⟩

/-- After CLOSE an access of the base-select port encodes as before, and one of another port as unbound (R148, R271). -/
theorem encode_of_decodeClosed {e : HostEvent} {i : Instr} (hl : legalBase base = true)
    (h : decodeClosed base e = .ok i) : encode base i = e := by
  cases e with
  | ioRead port t =>
    cases h
    rw [missedRead]
    split
    · next hp => rw [encode, hp]
    · rw [encode]
  | ioWrite port v t =>
    cases h
    split
    · next hp => rw [encode, hp]
    · rw [encode]
  | _ => exact (encodes_of_decode hl (by simpa only [decodeClosed] using h)).2

end Encode

/-! ## The obligations -/

/-- Settles O1, by the instructions: the row of each register, or the kind of port that has no row, gives it back. -/
theorem decodeOfEncodeIsInstruction : Obligations.DecodeOfEncodeIsInstruction := fun _ _ => decode_encode

/-- Settles O2: what an access decodes to for each kind of port, and after CLOSE for a port in no window. -/
theorem encodeOfDecodeIsEvent : Obligations.EncodeOfDecodeIsEvent :=
  ⟨fun _ _ _ => encodes_of_decode, fun _ _ _ => encode_of_decodeClosed⟩

/-- Settles O4: the decoder run on the seven accesses. -/
theorem listedAccessesDecode : Obligations.ListedAccessesDecode := by
  unfold Obligations.ListedAccessesDecode
  decide

end Sys2Proof
end

section
/-! PROOFS. The model's numbering of events (log entry 1): the fields of a number, and O3. -/

namespace Sys2Proof

/-- The number with the given fields (log entry 1). -/
def fieldsNumber (port : Port) (code data : Byte) (t : Nat) : Nat :=
  port.toNat + code.toNat * 2 ^ 16 + data.toNat * 2 ^ 24 + t * 2 ^ 32

section Fields

variable (port : Port) (code data : Byte) (t : Nat)

theorem fieldsNumber_port : BitVec.ofNat 16 (fieldsNumber port code data t) = port := by
  apply BitVec.eq_of_toNat_eq
  rw [BitVec.toNat_ofNat, fieldsNumber]
  omega

theorem fieldsNumber_code : fieldsNumber port code data t / 2 ^ 16 % 256 = code.toNat := by
  rw [fieldsNumber]
  omega

theorem fieldsNumber_data : BitVec.ofNat 8 (fieldsNumber port code data t / 2 ^ 24) = data := by
  apply BitVec.eq_of_toNat_eq
  rw [BitVec.toNat_ofNat, fieldsNumber]
  omega

theorem fieldsNumber_t : fieldsNumber port code data t / 2 ^ 32 = t := by
  rw [fieldsNumber]
  omega

end Fields

/-- The number of an event by its fields: a pull has `n` and `t` together in the field of `t` (log entry 1). -/
def HostEvent.packed : HostEvent → Nat
  | .ioRead port t => fieldsNumber port 0#8 0#8 t
  | .ioWrite port v t => fieldsNumber port 1#8 v t
  | .tick t => fieldsNumber 0#16 2#8 0#8 t
  | .midiIn b t => fieldsNumber 0#16 3#8 b t
  | .pullPcm n _ t => fieldsNumber 0#16 4#8 0#8 (2 ^ n * (2 * t + 1))
  | .pullSynth n _ t => fieldsNumber 0#16 5#8 0#8 (2 ^ n * (2 * t + 1))
  | .hostReset t => fieldsNumber 0#16 6#8 0#8 t
  | .construct p => fieldsNumber 0#16 7#8 (BitVec.ofNat 8 p.toNat) 0
  | .close t => fieldsNumber 0#16 8#8 0#8 t

theorem toNumber_eq_packed (e : HostEvent) : e.toNumber = e.packed := by
  cases e with
  | construct p => cases p <;> rfl
  | _ => simp [HostEvent.toNumber, HostEvent.packed, fieldsNumber]

/-- The field of a pull is its own fuel: it is at least `2 ^ n`, hence above `n`. -/
theorem lowZeros_pullField (n t : Nat) : lowZeros (2 ^ n * (2 * t + 1)) (2 ^ n * (2 * t + 1)) = n :=
  Machine.lowZeros_two_pow_mul_odd n t _ (Nat.lt_two_pow_self.le.trans (Nat.le_mul_of_pos_right _ (Nat.succ_pos _)))

theorem pullField_div (n t : Nat) : 2 ^ n * (2 * t + 1) / 2 ^ (n + 1) = t := by
  rw [Nat.pow_succ, Nat.mul_div_mul_left _ _ (Nat.two_pow_pos n)]
  omega

theorem ofNumber_toNumber (e : HostEvent)
    (hacc : ∀ n acc t, e = .pullPcm n acc t ∨ e = .pullSynth n acc t → acc = zeroAccumulator n) :
    HostEvent.ofNumber e.toNumber = .ok e := by
  rw [toNumber_eq_packed]
  cases e with
  | pullPcm n acc t | pullSynth n acc t =>
    obtain rfl : acc = zeroAccumulator n := hacc n acc t (by simp)
    simp only [HostEvent.packed, HostEvent.ofNumber, fieldsNumber_code, fieldsNumber_t, lowZeros_pullField,
      pullField_div]
    rfl
  | construct p =>
    simp only [HostEvent.packed, HostEvent.ofNumber, fieldsNumber_code, fieldsNumber_data]
    cases p <;> rfl
  | _ =>
    simp only [HostEvent.packed, HostEvent.ofNumber, fieldsNumber_port, fieldsNumber_code, fieldsNumber_data,
      fieldsNumber_t]
    rfl

/-- Settles O3: each format's fields read back, a pull's `n` as the number of low zero bits. -/
theorem numberedEventsReadBack : Obligations.NumberedEventsReadBack := ofNumber_toNumber

end Sys2Proof
end

section
/-! PROOFS. A table word placed as the next event (log entries 1 and 2): the next step runs what it decodes to. O6. -/

namespace Sys2Proof.Machine

/-- The placed event is the oldest one, and the state without it is the state it was placed in. -/
theorem step_offer {s : State} {e : HostEvent} {i : Instr} (hc : s.closed = false)
    (h : Sys2Proof.decode s.base e = .ok i) : step (s.offer e) = exec i s :=
  step_of_decode (offer_inputs s e) ((decode_of_live (s := s.offer e) hc e).trans h)

theorem withFetchWord_of_decode {nbits w : Nat} {i : Instr} (s : State) (h : decodeTableWord nbits w = some i) :
    s.withFetchWord nbits w = s.offer (encode s.base i) := by
  rw [State.withFetchWord, h]

/-- A table word is decoded at the base of construction, which is a legal one, so O2 says this of it. -/
theorem decodeTableWord_wellFormed {nbits w : Nat} {i : Instr} (h : decodeTableWord nbits w = some i) :
    WellFormed Config.params.baseReset i = true := by
  unfold decodeTableWord at h
  split at h
  · next e _ =>
    cases hd : Sys2Proof.decode Config.params.baseReset e with
    | ok j =>
      rw [hd] at h
      cases h
      exact (encodes_of_decode (by decide) hd).1
    | error r => rw [hd] at h; cases h
  · cases h

/-- Only a pull's event can be no instruction, so a well-formed instruction's event decodes at every other base too. -/
theorem decode_encode_ok {base : Port} {i : Instr} (hw : WellFormed base i = true) (base' : Port) :
    ∃ j, Sys2Proof.decode base' (encode base' i) = .ok j := by
  cases i with
  | pullPcm n acc t | pullSynth n acc t => exact ⟨_, if_pos (beq_iff_eq.1 hw)⟩
  | unbound port data t => cases data <;> exact ⟨_, rfl⟩
  | _ => exact ⟨_, rfl⟩

/-- Settles O6: the placed event decodes at the current `BASE`, by O1 to the instruction where that is well-formed. -/
theorem fetchWordRunsNext : Obligations.FetchWordRunsNext := by
  intro s nbits w i hc hw
  rw [withFetchWord_of_decode s hw]
  obtain ⟨j, hj⟩ := decode_encode_ok (decodeTableWord_wellFormed hw) s.base
  exact ⟨fun hl hi => step_offer hc (decode_encode hl hi), j, hj, step_offer hc hj⟩

end Sys2Proof.Machine
end

section
/-! PROOFS. Writes of registers that only store their byte, accesses that are answered without the block, and constants
(spec/40_decode_dispatch.md R104-R182): O12, O13, O16, O17, O18; and reading back what was written, O19. -/

namespace Sys2Proof.Machine

/-! ## Stored bytes, constants, and accesses of no register -/

/-- Settles O12: both writes are an admitted access that stores. -/
theorem mixerAndIoConf4WritesStore : Obligations.MixerAndIoConf4WritesStore := by
  intro s v t ha
  unfold exec
  exact ⟨access_of_admitted _ ha, access_of_admitted _ ha⟩

/-- Settles O13: each write is an admitted access that stores. -/
theorem plainWritesStoreTheByte : Obligations.PlainWritesStoreTheByte := by
  intro s v t ha
  unfold exec
  exact ⟨access_of_admitted _ ha, access_of_admitted _ ha, access_of_admitted _ ha, access_of_admitted _ ha,
    access_of_admitted _ ha, access_of_admitted _ ha, access_of_admitted _ ha⟩

/-- Settles O16: the reads return constants of table 4.1, the writes leave the entered state. -/
theorem constantsReadAndIgnoreWrites : Obligations.ConstantsReadAndIgnoreWrites := by
  intro s v t ha
  unfold exec
  exact ⟨access_of_admitted _ ha, access_of_admitted _ ha, access_of_admitted _ ha, access_of_admitted _ ha,
    access_of_admitted _ ha, access_of_admitted _ ha, access_of_admitted _ ha⟩

/-- Settles O17: the read returns `FLOAT`, the write leaves the entered state. -/
theorem unmappedAccessesFloatAndIgnore : Obligations.UnmappedAccessesFloatAndIgnore := by
  intro s off v t ha
  unfold exec
  exact ⟨access_of_admitted _ ha, access_of_admitted _ ha⟩

/-- An unbound access completes with no admission: the bus answers a read, and nothing answers a write (R148). -/
theorem exec_unbound (s : State) (port : Port) (data : Option Byte) (t : Nat) :
    exec (.unbound port data t) s = .next (s.returning (if data.isNone then .byte 0xFF#8 else .nothing)) := rfl

/-- The base-select port reads as an unbound one (R156). -/
theorem exec_inBaseSelect (s : State) (t : Nat) : exec (.inBaseSelect t) s = .next (s.returning (.byte 0xFF#8)) := rfl

/-- Settles O18: the read and the write of an unbound port, and the read of the base-select port. -/
theorem unboundAccessTakesNoStep : Obligations.UnboundAccessTakesNoStep := fun s port v t =>
  ⟨exec_unbound s port none t, exec_unbound s port (some v) t, exec_inBaseSelect s t⟩

/-! ## Reading back -/

/-- An effect that stores `v` in the register `reg` and leaves what admits the next access: the block's closing,
`BUFLEN` and the host's cursor (R276). -/
structure Stores (reg : State → Byte) (v : Byte) (s s' : State) : Prop where
  /-- the byte stored -/
  value : reg s' = v
  /-- the block is as open as before -/
  closed : s'.closed = s.closed
  /-- the bound on cursors -/
  bufLen : s'.bufLen = s.bufLen
  /-- the last cursor -/
  cursor : s'.env.cursor = s.env.cursor

/-- After an admitted step that stored a byte, a step at any later cursor up to `BUFLEN` is admitted. -/
theorem Stores.admitted {reg : State → Byte} {v : Byte} {s s' : State} {t t' : Nat} (h : Stores reg v (s.enter t) s')
    (ha : Admitted s t) (hle : t ≤ t') (hbuf : t' ≤ s.bufLen) : Admitted s' t' :=
  ⟨h.closed.trans ha.1, h.cursor.trans_le hle, hbuf.trans_eq h.bufLen.symm⟩

/-- A write `w` with the effect `f`, which stores in `reg` whatever else it does, and a read `r` of `reg`: the read
returns what was written. Where the effect is plain enough, the hypotheses hold by computation. -/
theorem readBack_of_stores {w : Byte → Nat → Instr} {r : Nat → Instr} (reg : State → Byte)
    (f : Byte → Nat → State → State)
    (hstores : ∀ s v t, Stores reg v s (f v t s) := by exact fun _ _ _ => ⟨rfl, rfl, rfl, rfl⟩)
    (hwrite : ∀ s v t, exec (w v t) s = s.access t (f v t) := by exact fun _ _ _ => rfl)
    (hread : ∀ s t, exec (r t) s = s.access t fun s => s.returnByte (reg s) := by exact fun _ _ => rfl)
    (hreg : ∀ s t, reg (s.enter t) = reg s := by exact fun _ _ => rfl) :
    ∀ (s s' : State) (v : Byte) (t t' : Nat), exec (w v t) s = .next s' → t ≤ t' → t' ≤ s.bufLen →
      ∃ s'', exec (r t') s' = .next s'' ∧ s''.env.reply = .byte v := by
  intro s s' v t t' h hle hbuf
  obtain ⟨ha, rfl⟩ := access_next_iff.1 ((hwrite s v t).symm.trans h)
  have hs := hstores (s.enter t) v t
  refine ⟨_, exec_of_storedRead reg (hs.admitted ha hle hbuf) (hread _ t') (hreg _ t'), ?_⟩
  rw [returning_reply, hs.value]

/-- A `SYS_CONF_1` write stores its byte after the reset too, if it runs one (R116). -/
theorem stores_sysConf1 (s : State) (v : Byte) (t : Nat) :
    Stores State.sysConf1 v s
      { (if systemResetEdge v s.sysConf1 then s.deviceReset t else s) with sysConf1 := v } := by
  split
  · rw [deviceReset_eq_resetRegisters]
    exact ⟨rfl, rfl, rfl, rfl⟩
  · exact ⟨rfl, rfl, rfl, rfl⟩

/-- A `FILTER` write stores its byte after the flush (R105). -/
theorem stores_filter (s : State) (v : Byte) (t : Nat) : Stores State.filter v s { s.flush t with filter := v } :=
  ⟨rfl, flush_closed s t, flush_bufLen s t, congrArg Env.cursor (flush_env s t)⟩

/-- Settles O19: each write stores in the register its read returns, and the flush, the reset and the calls some of them
make leave the next access admitted. -/
theorem plainRegistersReadBack : Obligations.PlainRegistersReadBack := by
  unfold Obligations.PlainRegistersReadBack
  simp only [List.forall_mem_cons, List.not_mem_nil, false_imp_iff, implies_true, and_true]
  exact ⟨readBack_of_stores State.mixer fun v _ s => { s with mixer := v },
    readBack_of_stores State.filter _ stores_filter,
    readBack_of_stores State.irqMask fun v _ s => { s with irqMask := v },
    readBack_of_stores State.pcmCtrl fun v _ s =>
      { s with stereoR := if pcmEnableEdge v s.pcmCtrl then false else s.stereoR, pcmCtrl := v },
    readBack_of_stores State.scsi fun v _ s => { s with scsi := v },
    readBack_of_stores State.sysConf1 _ stores_sysConf1,
    readBack_of_stores State.sysConf2 fun v _ s => { s with sysConf2 := v },
    readBack_of_stores State.sysConf3 fun v _ s => { s with sysConf3 := v },
    readBack_of_stores State.sysConf4 fun v _ s => { s with sysConf4 := v },
    readBack_of_stores State.wait fun v _ s => { s with wait := v },
    readBack_of_stores State.ioConf1 fun v _ s => { s with ioConf1 := v },
    readBack_of_stores State.ioConf2 fun v _ s => { s with ioConf2 := v, selDma := dmaChannel v },
    readBack_of_stores State.ioConf3 fun v _ s => { s with ioConf3 := v, selIrq := irqLine v },
    readBack_of_stores State.ioConf4 fun v _ s => { s with ioConf4 := v },
    readBack_of_stores State.compat fun v _ s => { s with compat := v }.compatPush,
    readBack_of_stores State.compatBase fun v _ s => { s with compatBase := v }.compatPush,
    readBack_of_stores State.sbIrqDma fun v _ s => { s with sbIrqDma := v }.call (.dspSetIrqDma v)⟩

end Sys2Proof.Machine
end

section
/-! PROOFS. Writes that do more than store: what the tables select, the compatibility addresses, the bytes forwarded
to a collaborator (spec/40_decode_dispatch.md R102-R137): O22, O23, O24, O25 and O27. -/

namespace Sys2Proof.Machine

/-! ## The tables -/

/-- Settles O22: the entry selected stands in its table at the low bits of the byte. -/
theorem selectionsFollowTheTables : Obligations.SelectionsFollowTheTables := by
  refine ⟨fun v => ?dma, fun v => ?irq⟩
  case dma =>
    have htable : [4, 1, 2, 3, 0, 5, 6, 7] = Config.params.dmaTable.map Fin.val := rfl
    rw [htable, List.getD_eq_getElem?_getD, List.getElem?_map, dmaTable_getElem?]
    rfl
  case irq =>
    have htable : [0, 2, 3, 4, 5, 6, 7, 10, 11, 12, 14, 15, 0, 0, 0, 0] = Config.params.irqTable.map Fin.val := rfl
    rw [htable, List.getD_eq_getElem?_getD, List.getElem?_map, irqTable_getElem?]
    rfl

/-! ## The compatibility addresses -/

/-- The DSP's address in numbers, under bit 1 of `COMPAT` (R130). -/
theorem dspAddress_eq (c b : Byte) :
    dspAddress c b = if c.getLsbD 1 then BitVec.ofNat 16 (0x200 + 16 * (b.toNat % 16)) else 0#16 := by
  have henabled : ∀ c : Byte, (c &&& Config.params.compatSbEn != 0#8) = c.getLsbD 1 := by decide
  have haddress : ∀ b : Byte, 0x200#16 ||| (b &&& 0x0F#8).setWidth 16 <<< 4 =
      BitVec.ofNat 16 (0x200 + 16 * (b.toNat % 16)) := by decide
  rw [dspAddress, henabled, haddress]

/-- The UART's address in numbers, under bit 0 of `COMPAT` (R130). -/
theorem uartAddress_eq (c b : Byte) :
    uartAddress c b = if c.getLsbD 0 then BitVec.ofNat 16 (0x300 + (b.toNat - b.toNat % 16)) else 0#16 := by
  have henabled : ∀ c : Byte, (c &&& Config.params.compatMpuEn != 0#8) = c.getLsbD 0 := by decide
  have haddress : ∀ b : Byte, 0x300#16 ||| (b &&& 0xF0#8).setWidth 16 =
      BitVec.ofNat 16 (0x300 + (b.toNat - b.toNat % 16)) := by decide
  rw [uartAddress, henabled, haddress]

/-- `CompatPush()` as the calls it makes (R130). -/
theorem compatPush_eq_calls (s : State) :
    s.compatPush =
      s.calls [.dspSetAddr (dspAddress s.compat s.compatBase), .uartSetAddr (uartAddress s.compat s.compatBase)] :=
  compatPush_eq s

/-- Settles O23: both writes store and push, and the addresses pushed are those of the stored bytes. -/
theorem compatWritesPushBothAddresses : Obligations.CompatWritesPushBothAddresses := by
  intro s v t ha dsp uart
  have hcompat : exec (.outCompat v t) s = .next { s.enter t with compat := v }.compatPush := by
    unfold exec
    exact access_of_admitted _ ha
  have hbase : exec (.outCompatBase v t) s = .next { s.enter t with compatBase := v }.compatPush := by
    unfold exec
    exact access_of_admitted _ ha
  rw [hcompat, hbase, compatPush_eq_calls, compatPush_eq_calls]
  simp only [dspAddress_eq, uartAddress_eq]
  exact ⟨rfl, rfl⟩

/-! ## Bytes forwarded to a collaborator -/

/-- Settles O24: the byte is stored, and the one call carries it. -/
theorem sbIrqDmaByteIsForwarded : Obligations.SbIrqDmaByteIsForwarded := by
  intro s v t ha
  unfold exec
  exact access_of_admitted _ ha

/-- A synthesizer write is one call and changes nothing else (R102). -/
theorem exec_outSynth {s : State} {t : Nat} (off : Port) (v : Byte) (ha : Admitted s t) :
    exec (.outSynth off v t) s = .next ((s.enter t).calls [.synthWrite off v]) := by
  unfold exec
  exact access_of_admitted _ ha

/-- Calls made in one step and in the next stand in this order in the record. -/
theorem calls_enter_calls (s : State) (t t' : Nat) (cs cs' : List Call) :
    (((s.enter t).calls cs).enter t').calls cs' = (s.enter t').calls (cs ++ cs') := by
  simp only [State.calls, State.enter, List.append_assoc]

/-- Settles O25: the second write is admitted after the first, which left the block as it was. -/
theorem synthWritesReachSynthInOrder : Obligations.SynthWritesReachSynthInOrder := by
  intro s off off' v v' t t' ha hle hbuf
  have hfirst := exec_outSynth off v ha
  have hsecond : exec (.outSynth off' v' t') ((s.enter t).calls [.synthWrite off v]) = _ :=
    exec_outSynth off' v' ⟨ha.1, hle, hbuf⟩
  refine ⟨hfirst, ?_⟩
  rw [execAll_cons _ hfirst, execAll_cons _ hsecond, calls_enter_calls]
  rfl

/-- The timer is asked for the register of the offset (R114). -/
theorem exec_outTimer {s : State} {t : Nat} (off : Port) (v : Byte) (ha : Admitted s t) :
    exec (.outTimer off v t) s = .next ((s.enter t).timerWrite (off - 0x1388#16) v) := by
  unfold exec
  exact access_of_admitted _ ha

/-- Settles O27: T1 is the setting drawn, and the answers ready are one fewer. -/
theorem timerWriteSetsOnlyTheCountdown : Obligations.TimerWriteSetsOnlyTheCountdown := by
  intro s off v t ha
  obtain ⟨hlow, hhigh⟩ := toT1_count_range (draw freeSetting s.env.drawn s.env.supply.settings).1
  refine ⟨_, { s.env.supply with settings := s.env.supply.settings.drop 1 }, ?_, hlow, hhigh, drawnT1_of_ready _⟩
  rw [exec_outTimer off v ha, timerWrite_eq, draw_snd]
  rfl

end Sys2Proof.Machine
end

section
/-! PROOFS. The filter and the PCM registers (spec/40_decode_dispatch.md R105-R109): the writes that flush, O28 and O29;
the enable edge and the sample after it (spec/44_pcm_sampler.md R201-R209), O30 and O47. -/

namespace Sys2Proof.Machine

/-! ## Writes that flush before they store -/

/-- Settles O28: the byte is stored after the flush, which reads the old one. -/
theorem filterWriteFlushesUnderOldByte : Obligations.FilterWriteFlushesUnderOldByte := by
  intro s v t ha
  have hexec : exec (.outFilter v t) s = .next { (s.enter t).flush t with filter := v } := by
    unfold exec
    exact access_of_admitted _ ha
  refine ⟨_, hexec, { flush_flushed (s.enter t) t with }, ?_⟩
  rw [flush_eq]

/-- The low byte replaced: the high byte stands before `v` (R107). -/
theorem withLowByte_eq_append (w : BitVec 16) (v : Byte) : withLowByte w v = w.extractLsb' 8 8 ++ v := by
  have hmask (i : Nat) (hi : i < 16) : (0xFF00#16).getLsbD i = !decide (i < 8) := by
    revert i
    decide
  refine BitVec.eq_of_getLsbD_eq fun i hi => ?_
  rw [withLowByte, BitVec.getLsbD_or, BitVec.getLsbD_and, hmask i hi, BitVec.getLsbD_setWidth, BitVec.getLsbD_append,
    BitVec.getLsbD_extractLsb']
  by_cases h : i < 8
  · simp [h, hi]
  · have hhigh : i - 8 < 8 ∧ 8 + (i - 8) = i := by omega
    simp [h, hi, hhigh, BitVec.getLsbD_of_ge v i (Nat.not_lt.1 h)]

/-- The high byte replaced: `v` stands before the low byte (R108). -/
theorem withHighByte_eq_append (w : BitVec 16) (v : Byte) : withHighByte w v = v ++ w.setWidth 8 := by
  have hmask (i : Nat) (hi : i < 16) : (0x00FF#16).getLsbD i = decide (i < 8) := by
    revert i
    decide
  refine BitVec.eq_of_getLsbD_eq fun i hi => ?_
  rw [withHighByte, BitVec.getLsbD_or, BitVec.getLsbD_and, hmask i hi, BitVec.getLsbD_append]
  by_cases h : i < 8
  · simp [h]
  · simp [h, hi]

/-- Two bytes as a number, the first the high one. -/
theorem toNat_append_byte (hi lo : Byte) : (hi ++ lo).toNat = hi.toNat * 256 + lo.toNat := by
  rw [BitVec.toNat_append, ← Nat.shiftLeft_add_eq_or_of_lt lo.isLt, Nat.shiftLeft_eq]

/-- The low byte of `PCM_DATA` replaced, in numbers (R107). -/
theorem withLowByte_toNat (w : BitVec 16) (v : Byte) : (withLowByte w v).toNat = w.toNat / 256 * 256 + v.toNat := by
  rw [withLowByte_eq_append, toNat_append_byte, BitVec.extractLsb'_toNat, Nat.shiftRight_eq_div_pow]
  omega

/-- The high byte of `PCM_DATA` replaced, in numbers (R108). -/
theorem withHighByte_toNat (w : BitVec 16) (v : Byte) : (withHighByte w v).toNat = v.toNat * 256 + w.toNat % 256 := by
  rw [withHighByte_eq_append, toNat_append_byte, BitVec.toNat_setWidth]

/-- Settles O29: the half is stored after the flush. -/
theorem pcmDataWritesFlushThenStore : Obligations.PcmDataWritesFlushThenStore := by
  intro s v t ha
  have hlow : exec (.outPcmDataLo v t) s =
      .next { (s.enter t).flush t with pcmData := withLowByte s.pcmData v } := by
    unfold exec
    exact access_of_admitted _ ha
  have hhigh : exec (.outPcmDataHi v t) s =
      .next { (s.enter t).flush t with pcmData := withHighByte s.pcmData v } := by
    unfold exec
    exact access_of_admitted _ ha
  refine ⟨⟨_, hlow, { flush_flushed (s.enter t) t with }, withLowByte_toNat _ v, ?_⟩,
    ⟨_, hhigh, { flush_flushed (s.enter t) t with }, withHighByte_toNat _ v, ?_⟩⟩
  · rw [flush_eq]
  · rw [flush_eq]

/-! ## The enable edge -/

/-- A test of `PCM_ENA` by its mask is one of bit 6 (R29). -/
theorem pcmEnabled_eq (v : Byte) : pcmEnabled v = v.getLsbD 6 := by
  revert v
  decide

/-- A test of `PCM_MONO` by its mask is one of bit 5 (R29). -/
theorem pcmMonoMode_eq (v : Byte) : pcmMonoMode v = v.getLsbD 5 := by
  revert v
  decide

theorem pcmEnableEdge_iff (v old : Byte) :
    pcmEnableEdge v old = true ↔ v &&& Config.params.pcmEna ≠ 0#8 ∧ old &&& Config.params.pcmEna = 0#8 := by
  rw [pcmEnableEdge, Bool.and_eq_true, bne_iff_ne, beq_iff_eq]

/-- The edge in terms of what the two bytes say of the sampler (R109). -/
theorem pcmEnableEdge_eq (v old : Byte) : pcmEnableEdge v old = (pcmEnabled v && !pcmEnabled old) := by
  rw [pcmEnableEdge, pcmEnabled, pcmEnabled, bne, bne, Bool.not_not]

/-- A `PCM_CTRL` write stores the byte and clears the toggle on the edge (R109). -/
theorem exec_outPcmCtrl {s : State} {t : Nat} (v : Byte) (ha : Admitted s t) :
    exec (.outPcmCtrl v t) s =
      .next { s.enter t with pcmCtrl := v, stereoR := if pcmEnableEdge v s.pcmCtrl then false else s.stereoR } := by
  unfold exec
  exact access_of_admitted _ ha

/-- Settles O30: the edge is the condition of the statement. -/
theorem pcmCtrlWriteResetsToggleOnEdge : Obligations.PcmCtrlWriteResetsToggleOnEdge := by
  intro s v t ha
  rw [exec_outPcmCtrl v ha]
  simp only [pcmEnableEdge_iff]

/-! ## The first sample after the edge -/

theorem exec_tick {s : State} {t : Nat} (ha : Admitted s t) : exec (.tick t) s = .next ((s.enter t).tickOp t) := by
  unfold exec
  exact access_of_admitted _ ha

/-- The sample assembled depends on `SYS_CONF_2` and on the answers of the DMA collaborator alone (R203-R206). -/
theorem assemble_fst_congr {s s' : State} (hconf : s'.sysConf2 = s.sysConf2) (hsupply : s'.env.supply = s.env.supply)
    (hdrawn : s'.env.drawn = s.env.drawn) : s'.assemble.1 = s.assemble.1 := by
  simp only [State.assemble, dmaRead_eq, hconf, hsupply, hdrawn]
  split <;> rfl

@[simp] theorem countdown_latchL (s : State) : s.countdown.latchL = s.latchL := by
  rw [countdown_eq]
  split <;> rfl

@[simp] theorem countdown_latchR (s : State) : s.countdown.latchR = s.latchR := by
  rw [countdown_eq]
  split <;> rfl

@[simp] theorem countdown_stereoR (s : State) : s.countdown.stereoR = s.stereoR := by
  rw [countdown_eq]
  split <;> rfl

/-- Stereo routing with the toggle at left: the sample enters the left latch and the toggle flips (R208). -/
theorem route_of_left_next {s : State} (x : Sample) (hmono : pcmMonoMode s.pcmCtrl = false)
    (hleft : s.stereoR = false) : s.route x = { s with latchL := x, stereoR := true } := by
  simp [State.route, hmono, hleft]

/-- A sampling tick in stereo with the toggle at left: the sample assembled enters the left latch, the right latch
stays, and the toggle flips (R201, R208). -/
theorem tickOp_of_left_next {s : State} (t : Nat) (hen : s.t1.en = true) (hena : pcmEnabled s.pcmCtrl = true)
    (hmono : pcmMonoMode s.pcmCtrl = false) (hleft : s.stereoR = false) :
    (s.tickOp t).latchL = s.assemble.1 ∧ (s.tickOp t).latchR = s.latchR ∧ (s.tickOp t).stereoR = true := by
  rw [tickOp_eq, if_pos hen, if_pos hena]
  have hsample : ((s.flush t).produce Config.params.intSamp true).assemble.1 = s.assemble.1 :=
    assemble_fst_congr (by simp [produce_eq]) (by simp [produce_eq]) (by simp [produce_eq])
  rw [hsample, assemble_eq,
    route_of_left_next _ (by simpa [produce_eq] using hmono) (by simpa [produce_eq] using hleft)]
  exact ⟨by simp, by simp [produce_eq], by simp⟩

/-- Settles O47: the edge leaves the toggle at left, and nothing that the sample is assembled from changes before the
tick. -/
theorem firstStereoSampleLandsLeft : Obligations.FirstStereoSampleLandsLeft := by
  intro s v t u ha hle hbuf hen hena hmono hold
  rw [← pcmEnabled_eq] at hena hold
  rw [← pcmMonoMode_eq] at hmono
  have hedge : pcmEnableEdge v s.pcmCtrl = true := by rw [pcmEnableEdge_eq, hena, hold]; rfl
  have hwrite := exec_outPcmCtrl v ha
  rw [if_pos hedge] at hwrite
  have htick : exec (.tick u) { s.enter t with pcmCtrl := v, stereoR := false } = _ := exec_tick ⟨ha.1, hle, hbuf⟩
  refine ⟨_, (execAll_cons _ hwrite).trans (execAll_cons _ htick), ?_⟩
  obtain ⟨hlatchL, hlatchR, htoggle⟩ :=
    tickOp_of_left_next (s := ({ s.enter t with pcmCtrl := v, stereoR := false } : State).enter u) u hen hena hmono rfl
  exact ⟨hlatchL.trans (assemble_fst_congr rfl rfl rfl), hlatchR, htoggle⟩

end Sys2Proof.Machine
end

section
/-! PROOFS. Relocation (spec/41_relocation.md R153, R154, R156): what the port of a window offset decodes to names no
base, O7; and the base-select port, which no base binds, O8. -/

namespace Sys2Proof

/-! ## What the port of a window offset decodes to -/

section PortOf

variable {off : Port} (base : Port) (v : Byte) (t : Nat)

/-- A read of the port where a window offset answers is a read of the offset's row, or unmapped where it has none (R146,
R153). -/
theorem decodeRead_portOf (hoff : windowOffset off = true) :
    decodeRead base (portOf base off) t = (registerRow off).elim (.inUnmapped off t) fun r => r.read off t := by
  cases hrow : registerRow off with
  | some r =>
    rw [decodeRead_of_row t (by rwa [canonicalOffset_portOf]), canonicalOffset_portOf, Option.elim_some]
  | none =>
    rw [decodeRead_of_no_row t (by rwa [bound_portOf]) (by rwa [canonicalOffset_portOf]), canonicalOffset_portOf,
      Option.elim_none]

/-- As a read, at a base where the port is not the base-select port (R147, R153, R154). -/
theorem decodeWrite_portOf (hl : legalBase base = true) (hoff : windowOffset off = true) :
    decodeWrite base (portOf base off) v t =
      (registerRow off).elim (.outUnmapped off v t) fun r => r.write off v t := by
  cases hrow : registerRow off with
  | some r =>
    rw [decodeWrite_of_row v t hl (by rwa [canonicalOffset_portOf]), canonicalOffset_portOf, Option.elim_some]
  | none =>
    rw [decodeWrite_of_no_row v t hl (by rwa [bound_portOf]) (by rwa [canonicalOffset_portOf]),
      canonicalOffset_portOf, Option.elim_none]

end PortOf

/-! ## The obligations -/

/-- Settles O7: at either base the access is the one of the offset's row, or unmapped. -/
theorem relocatedPortReachesSameRegister : Obligations.RelocatedPortReachesSameRegister := by
  intro b b' off v t hb hb' hoff
  have hread := (decodeRead_portOf b t hoff).trans (decodeRead_portOf b' t hoff).symm
  have hwrite := (decodeWrite_portOf b v t hb hoff).trans (decodeWrite_portOf b' v t hb' hoff).symm
  exact ⟨congrArg Except.ok hread, congrArg Except.ok hwrite⟩

/-- Settles O8: no window holds the port, and its two accesses are the encodings of the base-select instructions. -/
theorem baseSelectPortIsNeverBound : Obligations.BaseSelectPortIsNeverBound := fun _ v t hl =>
  ⟨bound_baseSelectPort hl, decode_encode (i := .outBaseSelect v t) hl rfl,
    decode_encode (i := .inBaseSelect t) hl rfl⟩

end Sys2Proof
end

section
/-! PROOFS. The interrupt status and the interrupt line (spec/42_interrupt.md R161-R169): what alone clears a status bit,
O34, and what alone drives the line, O35; the status register, O14 and O32, and the producer, O33. -/

namespace Sys2Proof.Machine

/-! ## Status bits -/

/-- No status bit that is set in `s` is clear in `s'`. -/
def StatusKept (s s' : State) : Prop :=
  ∀ k, s.irqStat.getLsbD k = true → s'.irqStat.getLsbD k = true

/-- A clear mask clears the bits set in it and sets none (R165). -/
theorem cleared_getLsbD (v stat : Byte) (k : Nat) :
    (cleared v stat).getLsbD k = (stat.getLsbD k && !v.getLsbD k) := by
  rw [cleared, BitVec.getLsbD_and, BitVec.getLsbD_not]
  by_cases hk : k < 8
  · simp [hk]
  · simp [BitVec.getLsbD_of_ge stat k (Nat.not_lt.1 hk)]

/-- A producer sets the bits of its own and clears none (R161, R163). -/
theorem raised_getLsbD (bit : Byte) (cond : Bool) (stat : Byte) (k : Nat) :
    (raised bit cond stat).getLsbD k = (stat.getLsbD k || (cond && bit.getLsbD k)) := by
  cases cond <;> simp [raised]

namespace StatusKept

variable {s r : State}

theorem of_eq (h : r.irqStat = s.irqStat) : StatusKept s r := fun _ hk => by rwa [h]

theorem produce (h : StatusKept s r) (bit : Byte) (cond : Bool) : StatusKept s (r.produce bit cond) := by
  intro k hk
  rw [produce_eq, raised_getLsbD, h k hk, Bool.true_or]

theorem midiSend (h : StatusKept s r) (v : Byte) : StatusKept s (r.midiSend v) := by
  rw [midiSend_eq]
  exact .produce h _ _

theorem midiPush (h : StatusKept s r) (b : Byte) : StatusKept s (r.midiPush b) := by
  rw [midiPush_eq]
  exact .produce h _ _

theorem softReset (h : StatusKept s r) : StatusKept s r.midiEmptied.midiEval := by
  rw [midiEval_eq]
  exact .produce h _ _

theorem midiPop (h : StatusKept s r) : StatusKept s r.midiPop := by
  rw [midiPop_eq]
  exact .produce h _ _

theorem midiRead (h : StatusKept s r) : StatusKept s r.midiRead := by
  rw [midiRead_eq]
  split
  · exact h
  · exact h.midiPop

theorem countdown (h : StatusKept s r) : StatusKept s r.countdown := by
  rw [countdown_eq]
  split
  · exact .produce h _ _
  · exact h

/-- A sample goes from the DMA channel to the latches (R203-R208). -/
theorem sample (h : StatusKept s r) (x : Sample) : StatusKept s (r.assemble.2.route x) := by
  rw [route_eq, assemble_eq]
  exact h

/-- Both producers of a tick only set bits, and nothing else in it touches the status (R201, R213). -/
theorem tickOp (h : StatusKept s r) (t : Nat) : StatusKept s (r.tickOp t) := by
  have hflushed : StatusKept s (r.flush t) := by
    rw [flush_eq]
    exact h
  have hproduced := hflushed.produce Config.params.intSamp true
  rw [tickOp_eq]
  split
  · split
    · exact (hproduced.sample _).countdown
    · exact hproduced.countdown
  · exact hproduced

end StatusKept

/-- What an instruction can do to the status bits: keep those set, clear some by a mask, or make them new. -/
theorem StepEffect.status {s s' : State} {i : Instr} (h : StepEffect s i s') :
    StatusKept s s' ∨ (∃ v t, i = .outIrqStat v t ∧ s'.irqStat = cleared v s.irqStat) ∨ ResetsDevice s i ∨
      ∃ p, i = .construct p := by
  have hentered {t : Nat} : StatusKept s (s.enter t) := .of_eq rfl
  cases h with
  | statusClear _ => exact .inr (.inl ⟨_, _, rfl, rfl⟩)
  | hostReset _ => exact .inr (.inr (.inl (.inl ⟨_, rfl⟩)))
  | systemReset _ hv hold => exact .inr (.inr (.inl (.inr ⟨_, _, rfl, hv, hold⟩)))
  | construct _ => exact .inr (.inr (.inr ⟨_, rfl⟩))
  | plain h => rw [h.frame]; exact .inl (.of_eq rfl)
  | baseSelect _ => exact .inl (.of_eq rfl)
  | dmaSelect _ => exact .inl (.of_eq rfl)
  | irqSelect _ => exact .inl (.of_eq rfl)
  | pcmCtrl _ => exact .inl (.of_eq rfl)
  | flushStore _ _ => rw [flush_eq]; exact .inl (.of_eq rfl)
  | pullPcm _ => rw [flush_eq]; exact .inl (.of_eq rfl)
  | timerRead _ => rw [timerRead_eq]; exact .inl (.of_eq rfl)
  | timerWrite _ => rw [timerWrite_eq]; exact .inl (.of_eq rfl)
  | midiSend _ _ => exact .inl (hentered.midiSend _)
  | midiPush _ _ => exact .inl (hentered.midiPush _)
  | softReset _ _ => exact .inl hentered.softReset
  | midiRead _ _ => exact .inl hentered.midiRead
  | tick _ => exact .inl (hentered.tickOp _)

/-- Settles O34: where the bits set are not kept, a clear mask with the bit set is what cleared it, or they are new. -/
theorem statusBitsClearedOnlyByClearMaskOrReset : Obligations.StatusBitsClearedOnlyByClearMaskOrReset := by
  intro s s' i k h hset hclear
  obtain hkept | ⟨v, t, rfl, hstat⟩ | hnew := (exec_effect h).status
  · exact absurd (hkept k hset) (by simp [hclear])
  · rw [hstat, cleared_getLsbD, hset, Bool.true_and, Bool.not_eq_false'] at hclear
    exact .inl ⟨v, t, rfl, hclear⟩
  · exact .inr (or_assoc.1 hnew)

/-! ## The line -/

/-- The level of the line is the same, and the calls made do not drive it. -/
abbrev LineKept (s s' : State) : Prop :=
  s'.line = s.line ∧ ∃ cs, s'.env.trace = s.env.trace ++ cs ∧ ∀ c ∈ cs, c.drivesLine = false

theorem LineKept.of_silent {s s' : State} (line : s'.line = s.line) (trace : s'.env.trace = s.env.trace) :
    LineKept s s' :=
  ⟨line, [], trace.trans (List.append_nil _).symm, by simp⟩

/-- A read of an empty FIFO only returns a byte, and runs no producer (R183). -/
theorem midiRead_of_empty {s : State} (h : s.rcur = s.wcur) :
    s.midiRead = s.returning (.byte s.fifo[s.rcur]) := by
  rw [midiRead_eq, if_pos h]

/-- Settles O35: each effect that runs a producer or resets the block is of an instruction the hypotheses exclude, and
the others keep the line. -/
theorem lineDrivenOnlyByProducersAndReset : Obligations.LineDrivenOnlyByProducersAndReset := by
  intro s s' i h htick hwrite hwriteAlias hread hsoft hmidiIn hreset hsystem hconstruct
  change LineKept s s'
  cases exec_effect h with
  | tick _ => exact absurd rfl (htick _)
  | midiSend _ hi =>
    obtain rfl | rfl := hi
    · exact absurd rfl (hwrite _ _)
    · exact absurd rfl (hwriteAlias _ _)
  | midiRead _ hi =>
    rw [midiRead_of_empty (s := s.enter _) (hread _ hi)]
    exact .of_silent rfl rfl
  | softReset _ hr => exact absurd ((softReset_iff _).1 hr) (hsoft _ _ rfl)
  | midiPush _ hp => exact absurd hp (by simp [hmidiIn _ _ rfl])
  | hostReset _ => exact absurd rfl (hreset _)
  | systemReset _ hv hold => exact absurd ⟨hv, hold⟩ (hsystem _ _ rfl)
  | construct _ => exact absurd rfl (hconstruct _)
  | plain h => exact ⟨by rw [h.frame], h.quiet⟩
  | baseSelect _ => exact .of_silent rfl rfl
  | dmaSelect _ => exact .of_silent rfl rfl
  | irqSelect _ => exact .of_silent rfl rfl
  | statusClear _ => exact .of_silent rfl rfl
  | pcmCtrl _ => exact .of_silent rfl rfl
  | flushStore _ _ => rw [flush_eq]; exact .of_silent rfl rfl
  | timerRead _ => rw [timerRead_eq]; exact ⟨rfl, [.timerRead _], rfl, by simp [Call.drivesLine]⟩
  | timerWrite _ => rw [timerWrite_eq]; exact ⟨rfl, [.timerWrite _ _], rfl, by simp [Call.drivesLine]⟩
  | pullPcm _ => rw [flush_eq]; exact ⟨rfl, [.dspMix _, .dspBufReset], rfl, by simp [Call.drivesLine]⟩

/-! ## The status register and the producer -/

/-- Settles O14: the read returns the stored byte, as the reads of plain registers do. -/
theorem irqStatReadClearsNothing : Obligations.IrqStatReadClearsNothing := fun _ _ ha =>
  exec_of_storedRead State.irqStat ha rfl rfl

/-- Settles O32: the mask is applied bit by bit, and the rest of the entered state stays. -/
theorem clearMaskWriteClearsSetBits : Obligations.ClearMaskWriteClearsSetBits := by
  intro s v t ha
  unfold exec
  exact ⟨cleared v s.irqStat, access_of_admitted _ ha, cleared_getLsbD v s.irqStat⟩

/-- The level a producer drives, as the statements write it (R163). -/
theorem lineLevel_eq_decide (bit stat mask : Byte) :
    lineLevel bit stat mask = decide (stat &&& bit ≠ 0#8 ∧ mask &&& bit ≠ 0#8) := by
  rw [lineLevel, Bool.decide_and]
  simp [bne, beq_eq_decide]

/-- Settles O33, for whatever bit: the producer makes one call, by its own bit of the new status and of the mask. -/
theorem producerDrivesFromItsOwnBit : Obligations.ProducerDrivesFromItsOwnBit := by
  intro s bit cond _ stat level
  have hlevel : lineLevel bit (raised bit cond s.irqStat) s.irqMask = level := lineLevel_eq_decide _ _ _
  rw [produce_eq, hlevel]
  rfl

end Sys2Proof.Machine
end

section
/-! PROOFS. The MIDI registers and the receive path (spec/43_midi.md R175-R189): the writes, O36 and O37, the data read,
O38, the incoming byte, O39, and runs of incoming bytes, O40. -/

namespace Sys2Proof.Machine

open Host (Outcome)

/-! ## What the shared operations leave, each with the level its producer drives -/

/-- The MIDI producer, as the statements of this family write it (R163, R179). -/
theorem produce_intMidi (s : State) (cond : Bool) :
    let stat := if cond then s.irqStat ||| 0x10#8 else s.irqStat
    let level := decide (stat &&& 0x10#8 ≠ 0#8 ∧ s.irqMask &&& 0x10#8 ≠ 0#8)
    s.produce Config.params.intMidi cond =
      { s with irqStat := stat, line := level }.calls [lineCall level s.selIrq] :=
  producerDrivesFromItsOwnBit s Config.params.intMidi cond (by simp)

/-- Whether two cursors differ, as the model and as the statements write it. -/
theorem bne_eq_decide_ne (r w : Fin Config.fifoDepth) : (r != w) = decide (r ≠ w) := by
  rw [bne, beq_eq_decide, decide_not]

/-- The status bit of a producer whose event is present is set, so that the level is its mask bit alone (R180). -/
theorem or_intMidi_and_ne_zero (stat : Byte) : (stat ||| 0x10#8) &&& 0x10#8 ≠ 0#8 := by
  intro h
  simpa using congrArg (BitVec.getLsbD · 4) h

/-- The soft reset: the event is absent, so the status stays (R177, R178). -/
theorem midiEmptied_midiEval_eq_calls (s : State) :
    let level := decide (s.irqStat &&& 0x10#8 ≠ 0#8 ∧ s.irqMask &&& 0x10#8 ≠ 0#8)
    s.midiEmptied.midiEval = { s.midiEmptied with line := level }.calls [lineCall level s.selIrq] := by
  rw [midiEval_eq]
  exact produce_intMidi s.midiEmptied false

/-- A send: two calls in order (R180). -/
theorem midiSend_eq_calls (s : State) (v : Byte) :
    let level := decide (s.irqMask &&& 0x10#8 ≠ 0#8)
    s.midiSend v =
      { s with txReady := true, irqStat := s.irqStat ||| 0x10#8, line := level }.calls
        [.uartSend v, lineCall level s.selIrq] := by
  have hlevel : decide ((s.irqStat ||| 0x10#8) &&& 0x10#8 ≠ 0#8 ∧ s.irqMask &&& 0x10#8 ≠ 0#8) =
      decide (s.irqMask &&& 0x10#8 ≠ 0#8) := by
    simp only [or_intMidi_and_ne_zero, ne_eq, not_false_eq_true, true_and]
  rw [midiSend_eq, produce_intMidi]
  simp [State.calls, State.call, hlevel]

/-- A pop (R183). -/
theorem midiPop_eq_calls (s : State) :
    let more := decide (s.rcur + 1 ≠ s.wcur)
    let stat := if s.txReady || more then s.irqStat ||| 0x10#8 else s.irqStat
    let level := decide (stat &&& 0x10#8 ≠ 0#8 ∧ s.irqMask &&& 0x10#8 ≠ 0#8)
    s.midiPop =
      { s with
        valid := s.valid.set s.rcur false, rcur := s.rcur + 1, rxReady := more, irqStat := stat,
        line := level }.calls [lineCall level s.selIrq] := by
  rw [midiPop_eq, bne_eq_decide_ne]
  exact produce_intMidi _ _

/-- A push, whatever the fill (R186, R187). -/
theorem midiPush_eq_calls (s : State) (b : Byte) :
    let data := decide (s.rcur ≠ s.wcur + 1)
    let stat := if s.txReady || data then s.irqStat ||| 0x10#8 else s.irqStat
    let level := decide (stat &&& 0x10#8 ≠ 0#8 ∧ s.irqMask &&& 0x10#8 ≠ 0#8)
    s.midiPush b =
      { s with
        fifo := s.fifo.set s.wcur b, valid := s.valid.set s.wcur true, wcur := s.wcur + 1, rxReady := data,
        irqStat := stat, line := level }.calls [lineCall level s.selIrq] := by
  rw [midiPush_eq, bne_eq_decide_ne]
  exact produce_intMidi _ _

theorem midiRead_of_data {s : State} (h : s.rcur ≠ s.wcur) :
    s.midiRead = s.midiPop.returning (.byte s.fifo[s.rcur]) := by
  rw [midiRead_eq, if_neg h]

/-! ## One access -/

theorem exec_outMidiCtrl {s : State} {t : Nat} (v : Byte) (ha : Admitted s t) :
    exec (.outMidiCtrl v t) s =
      .next (if softReset v then (s.enter t).midiEmptied.midiEval else { s.enter t with midiCtrl := v }) := by
  unfold exec
  exact access_of_admitted _ ha

/-- Settles O36: the two bits of the byte decide between the soft reset and the store. -/
theorem midiCtrlWriteStoresOrSoftResets : Obligations.MidiCtrlWriteStoresOrSoftResets := by
  intro s v t ha
  rw [exec_outMidiCtrl v ha]
  constructor
  · intro hbits
    rw [if_pos ((softReset_iff v).2 hbits), midiEmptied_midiEval_eq_calls]
    rfl
  · intro hbits
    rw [if_neg (mt (softReset_iff v).1 hbits)]

/-- Settles O37: at both ports an admitted access that sends. -/
theorem midiDataWriteSends : Obligations.MidiDataWriteSends := by
  intro s v t ha
  have hsend : s.access t (·.midiSend v) = .next _ :=
    (access_of_admitted _ ha).trans (congrArg Outcome.next (midiSend_eq_calls (s.enter t) v))
  unfold exec
  exact ⟨hsend, hsend⟩

/-- Settles O38: at both ports the cursors decide between the pop and the stale slot. -/
theorem midiDataReadPopsOrReturnsStale : Obligations.MidiDataReadPopsOrReturnsStale := by
  intro s t ha i hi
  have hexec : exec i s = .next (s.enter t).midiRead := by
    simp only [List.mem_cons, List.not_mem_nil, or_false] at hi
    obtain rfl | rfl := hi
    · exact exec_inMidiData ha
    · exact exec_inMidiDataAlias ha
  rw [hexec]
  constructor
  · intro hne
    rw [midiRead_of_data (s := s.enter t) hne, midiPop_eq_calls]
    rfl
  · intro heq
    rw [midiRead_of_empty (s := s.enter t) heq]
    rfl

/-- Without passthrough an incoming byte leaves the entered state (R186). -/
theorem exec_midiIn_of_no_passthrough {s : State} {t : Nat} (b : Byte) (ha : Admitted s t)
    (hp : s.midiPassthrough = false) : exec (.midiIn b t) s = .next (s.enter t) := by
  unfold exec
  exact (access_of_admitted _ ha).trans (congrArg Outcome.next (if_neg (ne_true_of_eq_false hp)))

/-- Settles O39: the passthrough decides between the push and the entered state. -/
theorem incomingMidiByteIsPushed : Obligations.IncomingMidiByteIsPushed := by
  intro s b t ha
  constructor
  · intro hp
    rw [exec_midiIn b ha hp, midiPush_eq_calls]
    rfl
  · exact exec_midiIn_of_no_passthrough b ha

/-! ## Runs of pushes -/

/-- Receive-ready says whether the FIFO holds data (R42, R183, R186). -/
def RxReadyExact (s : State) : Prop :=
  s.rxReady = decide (s.rcur ≠ s.wcur)

/-- A push recomputes receive-ready, whatever it was (R186). -/
theorem rxReadyExact_midiPush (s : State) (b : Byte) : RxReadyExact (s.midiPush b) := by
  rw [midiPush_eq_calls]
  rfl

/-- Admitted pushes complete, whatever the fill: each moves the write cursor by one slot of the ring and none moves the
read cursor. Receive-ready is exact after the last one; where there is none, it is if it was. -/
theorem execAll_pushes_cursors (pushes : List (Byte × Nat)) (s : State) (hrun : AdmittedRun s (pushes.map Prod.snd))
    (hp : s.midiPassthrough = true) :
    ∃ s', execAll (pushes.map fun p => .midiIn p.1 p.2) s = .next s' ∧ s'.rcur = s.rcur ∧
      s'.wcur = s.wcur + Fin.ofNat 16 pushes.length ∧ ((pushes = [] → RxReadyExact s) → RxReadyExact s') := by
  induction pushes generalizing s with
  | nil => exact ⟨s, rfl, rfl, (add_zero _).symm, fun h => h rfl⟩
  | cons p pushes ih =>
    obtain ⟨b, t⟩ := p
    obtain ⟨s', hexec, hr, hw, hrx⟩ := ih ((s.enter t).midiPush b) (hrun.tail rfl rfl rfl) hp
    refine ⟨s', ?_, hr, ?_, fun _ => hrx fun _ => rxReadyExact_midiPush _ b⟩
    · rw [List.map_cons, execAll_cons _ (exec_midiIn b hrun.head hp), hexec]
    · rw [List.length_cons, slot_succ]
      exact hw

/-- Settles O40: the write cursor has gone round the ring by the number of pushes, and sixteen are one whole turn. -/
theorem pushesWrapModulo16 : Obligations.PushesWrapModulo16 := by
  intro s pushes hrun hp
  obtain ⟨s', hexec, hr, hw, hrx⟩ := execAll_pushes_cursors pushes s hrun hp
  have hready (hne : pushes ≠ []) : s'.rxReady = decide (s'.rcur ≠ s'.wcur) := hrx fun h => absurd h hne
  refine ⟨s', hexec, hr, ?cursor, hready, ?turn⟩
  case cursor =>
    rw [hw, val_add_eq, Fin.val_ofNat, Nat.add_mod_mod]
  case turn =>
    intro hlen heq
    have hturn : s'.wcur = s.wcur := by
      rw [hw, hlen]
      exact add_zero _
    have hne : pushes ≠ [] := List.ne_nil_of_length_pos (hlen ▸ Nat.succ_pos 15)
    rw [hready hne, hr, hturn]
    exact decide_eq_false (not_not_intro heq)

end Sys2Proof.Machine
end

section
/-! PROOFS. The sampler (spec/44_pcm_sampler.md R201-R216): the sample assembled, O43; a tick with the countdown stopped,
O44, and running, O45. -/

namespace Sys2Proof.Machine

/-! ## The sample assembled -/

/-- A test of `SC2_16BIT` by its mask is one of bit 2 (R32). -/
theorem wideSamples_eq (v : Byte) : wideSamples v = v.getLsbD 2 := by
  revert v
  decide

theorem wideSamples_iff (v : Byte) : wideSamples v = true ↔ v &&& Config.params.sc2Wide ≠ 0#8 := bne_iff_ne

theorem msbInvert_eq (sysConf2 : Byte) (x : Sample) :
    msbInvert sysConf2 x = if sysConf2 &&& Config.params.sc2MsbInv ≠ 0#8 then x ^^^ 0x8000#16 else x := by
  simp only [msbInvert, bne_iff_ne]

/-- The flipped sign bit takes 128 from the unsigned byte (R204). -/
theorem sample8_toInt (b : Byte) : (sample8 b).toInt = 256 * ((b.toNat : Int) - 128) := by
  revert b
  decide

theorem sample16_eq_append (hi lo : Byte) : sample16 hi lo = hi ++ lo := by
  rw [BitVec.append_def, BitVec.shiftLeftZeroExtend_eq, BitVec.setWidth'_eq]
  rfl

/-- Two bytes as a number, the first read the high one (R205). -/
theorem sample16_toNat (hi lo : Byte) : (sample16 hi lo).toNat = 256 * hi.toNat + lo.toNat := by
  rw [sample16_eq_append, toNat_append_byte, Nat.mul_comm]

theorem assemble_of_narrow {s : State} (h : wideSamples s.sysConf2 = false) :
    s.assemble = (msbInvert s.sysConf2 (sample8 s.dmaRead.1), s.dmaRead.2) := by
  rw [State.assemble, if_neg (ne_true_of_eq_false h)]

theorem assemble_of_wide {s : State} (h : wideSamples s.sysConf2 = true) :
    s.assemble = (msbInvert s.sysConf2 (sample16 s.dmaRead.1 s.dmaRead.2.dmaRead.1), s.dmaRead.2.dmaRead.2) := by
  rw [State.assemble, if_pos h]

/-- Settles O43: one byte or two make the sample, and the reads are those of the record of calls. -/
theorem samplesAreAssembledFromDmaBytes : Obligations.SamplesAreAssembledFromDmaBytes := by
  intro s inverted
  have hinverted : msbInvert s.sysConf2 = inverted := funext (msbInvert_eq s.sysConf2)
  constructor
  · intro hmode
    have hnarrow : wideSamples s.sysConf2 = false :=
      Bool.eq_false_iff.2 fun hwide => (wideSamples_iff _).1 hwide hmode
    refine ⟨⟨_, sample8_toInt s.dmaRead.1, ?_⟩, ?_⟩
    · rw [assemble_of_narrow hnarrow, hinverted]
    · simp [assemble_eq, hnarrow]
  · intro hmode
    have hwide : wideSamples s.sysConf2 = true := (wideSamples_iff _).2 hmode
    refine ⟨⟨_, sample16_toNat s.dmaRead.1 s.dmaRead.2.dmaRead.1, ?_⟩, ?_⟩
    · rw [assemble_of_wide hwide, hinverted]
    · simp [assemble_eq, hwide, List.replicate]

/-! ## The producers of a tick -/

theorem or_and_cancel_right (stat bit : Byte) : (stat ||| bit) &&& bit = bit := by
  refine BitVec.eq_of_getLsbD_eq fun k _ => ?_
  rw [BitVec.getLsbD_and, BitVec.getLsbD_or]
  cases stat.getLsbD k <;> simp

/-- A producer whose event is present sets its bit, so that the level is its mask bit alone (R163). -/
theorem produce_of_event (s : State) {bit : Byte} (hbit : bit ≠ 0#8) :
    let level := decide (s.irqMask &&& bit ≠ 0#8)
    s.produce bit true =
      { s with irqStat := s.irqStat ||| bit, line := level }.calls [lineCall level s.selIrq] := by
  have hlevel : lineLevel bit (s.irqStat ||| bit) s.irqMask = decide (s.irqMask &&& bit ≠ 0#8) := by
    simp [lineLevel_eq_decide, or_and_cancel_right, hbit]
  rw [produce_eq, raised, if_pos rfl, hlevel]
  rfl

/-- `INT_SAMP` of a tick (R202). -/
theorem produce_intSamp (s : State) :
    let level := decide (s.irqMask &&& 0x04#8 ≠ 0#8)
    s.produce Config.params.intSamp true =
      { s with irqStat := s.irqStat ||| 0x04#8, line := level }.calls [lineCall level s.selIrq] :=
  produce_of_event s (by decide)

/-- `INT_PCM` of an underflow (R213). -/
theorem produce_intPcm (s : State) :
    let level := decide (s.irqMask &&& 0x08#8 ≠ 0#8)
    s.produce Config.params.intPcm true =
      { s with irqStat := s.irqStat ||| 0x08#8, line := level }.calls [lineCall level s.selIrq] :=
  produce_of_event s (by decide)

/-! ## A tick with the countdown stopped -/

theorem tickOp_of_stopped {s : State} (t : Nat) (hen : s.t1.en = false) :
    s.tickOp t = (s.flush t).produce Config.params.intSamp true := by
  rw [tickOp_eq, if_neg (ne_true_of_eq_false hen)]

/-- Settles O44: the tick ends after the sample-rate producer. -/
theorem tickWithCountdownStoppedOnlyFlushes : Obligations.TickWithCountdownStoppedOnlyFlushes := by
  intro s t ha hen level
  refine ⟨_, exec_tick ha, ?_⟩
  rw [tickOp_of_stopped (s := s.enter t) t hen, produce_intSamp]
  refine ⟨{ flush_flushed (s.enter t) t with }, ?_⟩
  rw [flush_eq]
  rfl

/-! ## The sample of a tick -/

/-- The middle part of a tick with T1 enabled: the sample assembled and routed, if `PCM_ENA` is set (R201). -/
def State.sampled (s : State) : State :=
  if pcmEnabled s.pcmCtrl then s.assemble.2.route s.assemble.1 else s

/-- How many DMA bytes it reads (R203). -/
def State.sampleReads (s : State) : Nat :=
  if pcmEnabled s.pcmCtrl then (if wideSamples s.sysConf2 then 2 else 1) else 0

theorem tickOp_of_running {s : State} (t : Nat) (hen : s.t1.en = true) :
    s.tickOp t = ((s.flush t).produce Config.params.intSamp true).sampled.countdown := by
  have hctrl : ((s.flush t).produce Config.params.intSamp true).pcmCtrl = s.pcmCtrl := by
    rw [produce_tickFrame, flush_eq]
  rw [tickOp_eq, if_pos hen, State.sampled, hctrl]
  split <;> rfl

/-- The sample changes the latches and the toggle by its routing, and makes its reads; nothing else (R203-R208). -/
theorem sampled_eq (s : State) :
    s.sampled =
      { s with
        latchL := if pcmEnabled s.pcmCtrl && (pcmMonoMode s.pcmCtrl || !s.stereoR) then s.assemble.1 else s.latchL
        latchR := if pcmEnabled s.pcmCtrl && (pcmMonoMode s.pcmCtrl || s.stereoR) then s.assemble.1 else s.latchR
        stereoR := if pcmEnabled s.pcmCtrl && !pcmMonoMode s.pcmCtrl then !s.stereoR else s.stereoR
        env := { s.env with
          trace := s.env.trace ++ List.replicate s.sampleReads (.dmaRead s.selDma)
          supply := s.sampled.env.supply, drawn := s.env.drawn + s.sampleReads } } := by
  unfold State.sampled State.sampleReads
  cases pcmEnabled s.pcmCtrl
  · simp
  · cases hmono : pcmMonoMode s.pcmCtrl <;> simp [route_eq, assemble_eq, hmono]

/-! ## The countdown -/

theorem countStep_eq (v : Byte) : countStep v = if v.getLsbD 2 then 2 else 1 := by
  rw [countStep, wideSamples_eq]

/-- Above 0 after the decrement, the count is that (R210). -/
theorem T1.countdown_of_pos {c : T1} {dec : Int} (h : 0 < c.count - dec) :
    c.countdown dec = { c with count := c.count - dec } := by
  simp [T1.countdown, T1.underflows, Int.not_le.2 h]

/-- At or below 0 after the decrement, it is reloaded or stopped (R211, R212). -/
theorem T1.countdown_of_nonpos {c : T1} {dec : Int} (h : c.count - dec ≤ 0) :
    c.countdown dec = if c.repeats then { c with count := c.reload } else { c with count := -1, en := false } := by
  simp [T1.countdown, T1.underflows, h]

theorem countdown_of_pos {s : State} (h : 0 < s.t1.count - countStep s.sysConf2) :
    s.countdown = { s with t1 := s.t1.countdown (countStep s.sysConf2) } := by
  simp [countdown_eq, T1.underflows, Int.not_le.2 h]

/-- The underflow is announced (R213). -/
theorem countdown_of_nonpos {s : State} (h : s.t1.count - countStep s.sysConf2 ≤ 0) :
    let level := decide (s.irqMask &&& 0x08#8 ≠ 0#8)
    s.countdown =
      { s with
        t1 := s.t1.countdown (countStep s.sysConf2), irqStat := s.irqStat ||| 0x08#8
        line := level }.calls [lineCall level s.selIrq] := by
  simp only [countdown_eq, T1.underflows, h, decide_true, if_true, produce_intPcm]

/-- What the countdown leaves alone, and T1, which counts down whether it underflows or not (R210-R213). -/
theorem countdown_frame (s : State) :
    s.countdown =
      { s with
        t1 := s.t1.countdown (countStep s.sysConf2), irqStat := s.countdown.irqStat, line := s.countdown.line
        env := { s.env with trace := s.countdown.env.trace } } := by
  rw [countdown_eq]
  split <;> rfl

/-! ## A tick with the countdown running -/

/-- The state in which a tick with T1 enabled counts down: flushed, with the sample-rate producer run and the sample
routed (R201). -/
theorem tickOp_beforeCountdown (s : State) (t : Nat) :
    let level := decide (s.irqMask &&& 0x04#8 ≠ 0#8)
    ((s.flush t).produce Config.params.intSamp true).sampled =
      { s with
        pos := (s.flush t).pos, bufL := (s.flush t).bufL, bufR := (s.flush t).bufR
        irqStat := s.irqStat ||| 0x04#8, line := level
        latchL := if pcmEnabled s.pcmCtrl && (pcmMonoMode s.pcmCtrl || !s.stereoR) then s.assemble.1 else s.latchL
        latchR := if pcmEnabled s.pcmCtrl && (pcmMonoMode s.pcmCtrl || s.stereoR) then s.assemble.1 else s.latchR
        stereoR := if pcmEnabled s.pcmCtrl && !pcmMonoMode s.pcmCtrl then !s.stereoR else s.stereoR
        env := { s.env with
          trace := s.env.trace ++ [lineCall level s.selIrq] ++ List.replicate s.sampleReads (.dmaRead s.selDma)
          supply := ((s.flush t).produce Config.params.intSamp true).sampled.env.supply
          drawn := s.env.drawn + s.sampleReads } } := by
  intro level
  have hproduced : (s.flush t).produce Config.params.intSamp true =
      { s with
        pos := (s.flush t).pos, bufL := (s.flush t).bufL, bufR := (s.flush t).bufR
        irqStat := s.irqStat ||| 0x04#8, line := level }.calls [lineCall level s.selIrq] := by
    rw [produce_intSamp, flush_eq]
  have hsample : ((s.flush t).produce Config.params.intSamp true).assemble.1 = s.assemble.1 :=
    assemble_fst_congr (by simp [produce_eq]) (by simp [produce_eq]) (by simp [produce_eq])
  rw [sampled_eq, hsample, hproduced]
  rfl

theorem sampleReads_eq (s : State) :
    s.sampleReads = if s.pcmCtrl.getLsbD 6 then (if s.sysConf2.getLsbD 2 then 2 else 1) else 0 := by
  rw [State.sampleReads, pcmEnabled_eq, wideSamples_eq]

/-- Settles O45: what stands before the countdown, and the countdown's two cases. -/
theorem tickSamplesAndCountsDown : Obligations.TickSamplesAndCountsDown := by
  intro s t ha hen wide samples mono x reads count sampLevel pcmLevel
  obtain ⟨r, hr⟩ : ∃ r, (((s.enter t).flush t).produce Config.params.intSamp true).sampled = r := ⟨_, rfl⟩
  have htick : (s.enter t).tickOp t = r.countdown := (tickOp_of_running (s := s.enter t) t hen).trans (congrArg _ hr)
  have hbefore := tickOp_beforeCountdown (s.enter t) t
  have hx : (s.enter t).assemble.1 = x := assemble_fst_congr rfl rfl rfl
  simp only [hr, hx, pcmEnabled_eq, pcmMonoMode_eq, sampleReads_eq] at hbefore
  have hcount : r.t1.count - countStep r.sysConf2 = count := by rw [hbefore, countStep_eq]; rfl
  refine ⟨r.countdown, htick ▸ exec_tick ha, ?flushed, ?latchL, ?latchR, ?toggle, ?counts, ?underflows, ?drawn,
    htick ▸ tickOp_frame (s.enter t) t⟩
  case flushed =>
    rw [countdown_frame, hbefore]
    exact { flush_flushed (s.enter t) t with }
  case latchL => rw [countdown_latchL, hbefore]; rfl
  case latchR => rw [countdown_latchR, hbefore]; rfl
  case toggle => rw [countdown_stereoR, hbefore]; rfl
  case drawn => rw [countdown_frame, hbefore]; rfl
  case counts =>
    intro hpos
    rw [← hcount] at hpos
    rw [countdown_of_pos hpos, T1.countdown_of_pos hpos, hcount, hbefore]
    exact ⟨rfl, rfl, rfl, rfl⟩
  case underflows =>
    intro hle
    rw [← hcount] at hle
    rw [countdown_of_nonpos hle, T1.countdown_of_nonpos hle, hbefore]
    exact ⟨rfl, rfl, rfl, rfl⟩

end Sys2Proof.Machine
end

section
/-! PROOFS. The cadence of the countdown's underflows in repeat mode (spec/44_pcm_sampler.md R210-R214): O46. -/

namespace Sys2Proof.Machine

/-! ## The count a reload gives, and the ticks it lasts -/

/-- The period as R212 counts it, 0 as 65536. -/
def T1.block (c : T1) : Nat := if c.period = 0#16 then 65536 else c.period.toNat

theorem T1.reload_eq (c : T1) : c.reload = (c.block : Int) := by
  rw [T1.reload, T1.block, Nat.cast_ite]
  rfl

theorem T1.block_pos (c : T1) : 0 < c.block := by
  unfold T1.block
  split
  · decide
  · next h => exact Nat.pos_of_ne_zero fun h0 => h (BitVec.eq_of_toNat_eq h0)

/-- `ceil(P / d)`: how many decrements by `d` take a count of `P` to 0 or below (R214). -/
def ticksPerBlock (P d : Nat) : Nat := (P + d - 1) / d

section Cadence

variable {P d : Nat}

theorem ticksPerBlock_le_iff (hd : 0 < d) (n : Nat) : ticksPerBlock P d ≤ n ↔ P ≤ d * n := by
  rw [ticksPerBlock, Nat.div_le_iff_le_mul_add_pred hd]
  omega

theorem ticksPerBlock_pos (hP : 0 < P) (hd : 0 < d) : 0 < ticksPerBlock P d := by
  refine Nat.pos_of_ne_zero fun h => ?_
  have hzero : P ≤ d * 0 := (ticksPerBlock_le_iff hd 0).1 h.le
  omega

/-- The decrements since the last reload, one more than `k` modulo the block, have used the block up exactly when `k + 1`
is a multiple of its ticks. -/
theorem le_mul_succ_mod_iff (hP : 0 < P) (hd : 0 < d) (k : Nat) :
    P ≤ d * (k % ticksPerBlock P d + 1) ↔ (k + 1) % ticksPerBlock P d = 0 := by
  rw [← ticksPerBlock_le_iff hd]
  obtain ⟨n, hn⟩ := Nat.exists_eq_succ_of_ne_zero (ticksPerBlock_pos hP hd).ne'
  have hlt : k % (n + 1) < n + 1 := Nat.mod_lt k n.succ_pos
  rw [hn, Nat.succ_eq_add_one, Nat.succ_mod_succ_eq_zero_iff]
  omega

theorem succ_mod_of_ne_zero {k n : Nat} (h : (k + 1) % n ≠ 0) : (k + 1) % n = k % n + 1 := by
  obtain _ | n := n
  · rw [Nat.mod_zero, Nat.mod_zero]
  · have hlt : k % (n + 1) < n + 1 := Nat.mod_lt k n.succ_pos
    have hne : k % (n + 1) ≠ n := mt Nat.succ_mod_succ_eq_zero_iff.2 h
    rw [← Nat.mod_add_mod, Nat.mod_eq_of_lt (by omega)]

end Cadence

/-! ## Countdown after countdown -/

/-- T1 after `k` decrements by `d` from the period, reloaded at each underflow (R214). -/
def T1.afterTicks (c : T1) (d k : Nat) : T1 :=
  { c with count := (c.block : Int) - (d * (k % ticksPerBlock c.block d) : Nat) }

theorem T1.afterTicks_count (c : T1) (d k : Nat) :
    (c.afterTicks d k).count = (c.block : Int) - (d * (k % ticksPerBlock c.block d) : Nat) := rfl

theorem T1.afterTicks_zero {c : T1} (d : Nat) (h : c.count = (c.block : Int)) : c.afterTicks d 0 = c := by
  simp [T1.afterTicks, ← h]

/-- The next decrement underflows exactly when its number is a multiple of the ticks of a block. -/
theorem T1.afterTicks_underflows_iff (c : T1) {d : Nat} (hd : 0 < d) (k : Nat) :
    (c.afterTicks d k).count - (d : Int) ≤ 0 ↔ (k + 1) % ticksPerBlock c.block d = 0 := by
  rw [← le_mul_succ_mod_iff c.block_pos hd, T1.afterTicks_count, Nat.mul_succ]
  omega

/-- One more countdown in repeat mode is one more tick (R210-R212). -/
theorem T1.countdown_afterTicks (c : T1) {d : Nat} (hd : 0 < d) (k : Nat) (hrep : c.repeats = true) :
    (c.afterTicks d k).countdown d = c.afterTicks d (k + 1) := by
  have hiff := c.afterTicks_underflows_iff hd k
  by_cases hle : (c.afterTicks d k).count - (d : Int) ≤ 0
  · have hreload : (c.afterTicks d k).reload = (c.block : Int) := c.reload_eq
    rw [T1.countdown_of_nonpos hle, if_pos (show (c.afterTicks d k).repeats = true from hrep), hreload]
    simp [T1.afterTicks, hiff.1 hle]
  · have hsucc := succ_mod_of_ne_zero (mt hiff.2 hle)
    rw [T1.countdown_of_pos (Int.not_le.1 hle)]
    simp only [T1.afterTicks, hsucc, Nat.mul_succ]
    congr 1
    omega

/-! ## Runs of ticks -/

/-- A tick with T1 enabled counts it down (R210). -/
theorem tickOp_t1_of_running {s : State} (t : Nat) (hen : s.t1.en = true) :
    (s.tickOp t).t1 = s.t1.countdown (countStep s.sysConf2) := by
  rw [tickOp_of_running t hen, countdown_frame, tickOp_beforeCountdown]

/-- Admitted ticks in repeat mode complete, and count the block down and reload it. -/
theorem execAll_ticks (ticks : List Nat) (s : State) (c : T1) (d k : Nat) (hrun : AdmittedRun s ticks) (hd : 0 < d)
    (hstep : countStep s.sysConf2 = d) (hen : c.en = true) (hrep : c.repeats = true) (hk : s.t1 = c.afterTicks d k) :
    ∃ s', execAll (ticks.map .tick) s = .next s' ∧ s'.t1 = c.afterTicks d (k + ticks.length) := by
  induction ticks generalizing s k with
  | nil => exact ⟨s, rfl, hk⟩
  | cons t ticks ih =>
    have hframe := tickOp_frame (s.enter t) t
    have hconf : ((s.enter t).tickOp t).sysConf2 = s.sysConf2 := by rw [hframe]; rfl
    have hcounted : ((s.enter t).tickOp t).t1 = c.afterTicks d (k + 1) := by
      rw [tickOp_t1_of_running t (by rw [enter_t1, hk]; exact hen), enter_t1, enter_sysConf2, hstep, hk,
        c.countdown_afterTicks hd k hrep]
    obtain ⟨s', hexec, ht1⟩ := ih ((s.enter t).tickOp t) (k + 1)
      (hrun.tail (by rw [hframe]; rfl) (by rw [hframe]; rfl) (by rw [hframe]; rfl)) (hconf ▸ hstep) hcounted
    refine ⟨s', ?_, ?_⟩
    · rw [List.map_cons, execAll_cons _ (exec_tick hrun.head), hexec]
    · rw [ht1, List.length_cons, Nat.add_right_comm, Nat.add_assoc]

/-- Settles O46: the run leaves T1 after as many ticks, of which the next one's underflow is known. -/
theorem underflowCadenceIsCeilOfPeriod : Obligations.UnderflowCadenceIsCeilOfPeriod := by
  intro s ticks hrun hen hrep k P d c hcount
  have hd : 0 < d := by
    dsimp only [d]
    split <;> decide
  have hstep : countStep s.sysConf2 = (d : Int) := by
    rw [countStep_eq, Nat.cast_ite]
    rfl
  obtain ⟨s', hexec, ht1⟩ :=
    execAll_ticks ticks s s.t1 d 0 hrun hd hstep hen hrep (T1.afterTicks_zero d hcount).symm
  rw [Nat.zero_add] at ht1
  refine ⟨s', hexec, ht1, ?_⟩
  rw [ht1]
  exact s.t1.afterTicks_underflows_iff hd k

end Sys2Proof.Machine
end

section
/-! PROOFS. What alone changes the stereo toggle (spec/44_pcm_sampler.md R208, R209): O48. -/

namespace Sys2Proof.Machine

/-- The instruction moves the toggle: a sampling tick in stereo, an enable edge, or CONSTRUCT (R208, R209). -/
def MovesToggle (s : State) (i : Instr) : Prop :=
  (∃ t, i = .tick t ∧ s.t1.en = true ∧ s.pcmCtrl.getLsbD 6 = true ∧ s.pcmCtrl.getLsbD 5 = false) ∨
    (∃ v t, i = .outPcmCtrl v t ∧ v.getLsbD 6 = true ∧ s.pcmCtrl.getLsbD 6 = false) ∨ ∃ p, i = .construct p

@[simp] theorem deviceReset_stereoR (s : State) (t : Nat) : (s.deviceReset t).stereoR = s.stereoR := by
  rw [deviceReset_eq_resetRegisters]; rfl

/-- A tick flips the toggle where it samples in stereo, and keeps it elsewhere (R201, R207, R208). -/
theorem tickOp_stereoR (s : State) (t : Nat) :
    (s.tickOp t).stereoR =
      if s.t1.en && (pcmEnabled s.pcmCtrl && !pcmMonoMode s.pcmCtrl) then !s.stereoR else s.stereoR := by
  cases hen : s.t1.en
  · rw [tickOp_of_stopped t hen, produce_tickFrame, flush_eq]
    rfl
  · rw [tickOp_of_running t hen, countdown_stereoR, tickOp_beforeCountdown, Bool.true_and]

/-- Whatever effect an instruction has, it keeps the toggle or is one of those that move it. -/
theorem StepEffect.toggle {s s' : State} {i : Instr} (h : StepEffect s i s') :
    s'.stereoR = s.stereoR ∨ MovesToggle s i := by
  cases h with
  | @tick t _ =>
    rw [tickOp_stereoR]
    split
    · next hflip =>
      simp only [enter_t1, enter_pcmCtrl, pcmEnabled_eq, pcmMonoMode_eq, Bool.and_eq_true, Bool.not_eq_true'] at hflip
      exact .inr (.inl ⟨t, rfl, hflip⟩)
    · exact .inl rfl
  | @pcmCtrl v t _ =>
    dsimp only
    split
    · next hedge =>
      simp only [pcmEnableEdge_eq, pcmEnabled_eq, Bool.and_eq_true, Bool.not_eq_true'] at hedge
      exact .inr (.inr (.inl ⟨v, t, rfl, hedge⟩))
    · exact .inl rfl
  | construct _ => exact .inr (.inr (.inr ⟨_, rfl⟩))
  | plain h => rw [h.frame]; exact .inl rfl
  | baseSelect _ => exact .inl rfl
  | dmaSelect _ => exact .inl rfl
  | irqSelect _ => exact .inl rfl
  | statusClear _ => exact .inl rfl
  | flushStore _ _ => rw [flush_eq]; exact .inl rfl
  | pullPcm _ => rw [flush_eq]; exact .inl rfl
  | timerRead _ => rw [timerRead_eq]; exact .inl rfl
  | timerWrite _ => rw [timerWrite_eq]; exact .inl rfl
  | midiSend _ _ => rw [midiSend_eq, produce_eq]; exact .inl rfl
  | midiRead _ _ => rw [midiRead_frame]; exact .inl rfl
  | midiPush _ _ => rw [midiPush_eq, produce_eq]; exact .inl rfl
  | softReset _ _ => rw [midiEval_eq, produce_eq]; exact .inl rfl
  | hostReset _ => exact .inl (deviceReset_stereoR _ _)
  | systemReset _ _ _ => exact .inl (deviceReset_stereoR _ _)

/-- Settles O48: no other effect of an instruction reaches the toggle. -/
theorem stereoToggleChangesOnlyBySampleOrEdge : Obligations.StereoToggleChangesOnlyBySampleOrEdge :=
  fun _ _ _ h hne => (exec_effect h).toggle.resolve_left hne

end Sys2Proof.Machine
end

section
/-! PROOFS. The output stage (spec/45_output_stage.md): what alone touches the sample buffer, O50; the attenuation, O52;
the two buffer pulls, O51 and O53. -/

namespace Sys2Proof.Machine

/-! ## What alone touches the sample buffer -/

/-- The sample buffer and its cursor are the same in both states. -/
abbrev BufferKept (s s' : State) : Prop :=
  s'.pos = s.pos ∧ s'.bufL = s.bufL ∧ s'.bufR = s.bufR

theorem BufferKept.refl (s : State) : BufferKept s s := ⟨rfl, rfl, rfl⟩

/-- Settles O50: each effect that flushes, resets or makes a new block is of an instruction the hypotheses exclude, and
the others keep the buffer. -/
theorem onlyFlushingStepsTouchTheBuffer : Obligations.OnlyFlushingStepsTouchTheBuffer := by
  intro s s' i h hfilter hlow hhigh htick hreset hsystem hpull hconstruct
  change BufferKept s s'
  cases exec_effect h with
  | flushStore _ hi =>
    obtain rfl | rfl | rfl := hi
    · exact absurd rfl (hfilter _ _)
    · exact absurd rfl (hlow _ _)
    · exact absurd rfl (hhigh _ _)
  | tick _ => exact absurd rfl (htick _)
  | hostReset _ => exact absurd rfl (hreset _)
  | systemReset _ hv hold => exact absurd ⟨hv, hold⟩ (hsystem _ _ rfl)
  | pullPcm _ => exact absurd rfl (hpull _ _ _)
  | construct _ => exact absurd rfl (hconstruct _)
  | plain h => rw [h.frame]; exact .refl _
  | baseSelect _ => exact .refl _
  | dmaSelect _ => exact .refl _
  | irqSelect _ => exact .refl _
  | statusClear _ => exact .refl _
  | pcmCtrl _ => exact .refl _
  | timerRead _ => rw [timerRead_eq]; exact .refl _
  | timerWrite _ => rw [timerWrite_eq]; exact .refl _
  | midiSend _ _ => rw [midiSend_eq, produce_eq]; exact .refl _
  | midiRead _ _ => rw [midiRead_frame]; exact .refl _
  | midiPush _ _ => rw [midiPush_eq, produce_eq]; exact .refl _
  | softReset _ _ => rw [midiEval_eq, produce_eq]; exact .refl _

/-! ## The attenuation -/

/-- Settles O52: of a negative value it is the negated half of the opposite one, which is not negative. -/
theorem attenuationHalvesTowardZero : Obligations.AttenuationHalvesTowardZero := by
  refine fun x => ⟨Int.tdiv_eq_ediv_of_nonneg, fun h => ?_⟩
  rw [Config.atten, ← Int.tdiv_eq_ediv_of_nonneg (Int.neg_nonneg_of_nonpos h), Int.neg_tdiv, Int.neg_neg]

/-! ## The buffer pulls -/

/-- An admitted PCM pull (R233): the buffer as the flush to `n` leaves it, the mixed frames returned, and `POS` and the
host's cursor at 0. -/
theorem exec_pullPcm {s : State} {n t : Nat} (acc : List Frame) (ha : PullAdmitted s n t) :
    exec (.pullPcm n acc t) s =
      .next { s with
        pos := 0, bufL := ((s.enter t).flush n).bufL, bufR := ((s.enter t).flush n).bufR
        env := { s.env with
          trace := s.env.trace ++ [.dspMix n, .dspBufReset]
          supply := (s.dspMix n).2.env.supply
          drawn := s.env.drawn + n
          reply := .frames (mixPcm ((s.enter t).flush n) n acc (s.dspMix n).1)
          cursor := 0 } } := by
  unfold exec
  refine (pull_of_admitted _ ha).trans ?_
  simp only [dspMix_eq, State.call, flush_env, List.append_assoc, List.cons_append, List.nil_append]
  rw [flush_eq]
  rfl

/-- Settles O51: the frames mixed are read from the buffer as the flush leaves it, and the pull moves `POS` alone after
that. The lengths are not needed: both sides read a missing frame as 0. -/
theorem pcmPullMixesFlushedFrames : Obligations.PcmPullMixesFlushedFrames := by
  intro s n acc t ha _ _ _
  have hflushed := flush_flushed (s.enter t) n
  refine ⟨_, _, exec_pullPcm acc ha, rfl, mixPcm_length .., drawFrames_length .., fun k hk => ?_,
    { hflushed with pos_eq := rfl }, rfl, rfl, rfl, rfl⟩
  rw [mixPcm_getD _ _ _ _ _ hk]
  exact ⟨rfl, rfl⟩

/-- An admitted synthesizer pull (R235): the frames drawn and added, two calls, and the host's cursor at `t`; nothing
else. -/
theorem exec_pullSynth {s : State} {n t : Nat} (acc : List Frame) (ha : PullAdmitted s n t) :
    exec (.pullSynth n acc t) s =
      .next { s with env := { s.env with
        trace := s.env.trace ++ [.synthPull n, .synthBufReset]
        supply := (s.synthPull n).2.env.supply
        drawn := s.env.drawn + n
        cursor := t
        reply := .frames (mixSynth n acc (s.synthPull n).1) } } := by
  unfold exec
  refine (pull_of_admitted _ ha).trans ?_
  simp only [synthPull_eq, State.call, List.append_assoc, List.cons_append, List.nil_append]
  rfl

/-- Settles O53: each frame is the caller's and the synthesizer's, added. -/
theorem synthPullAddsFramesUnchanged : Obligations.SynthPullAddsFramesUnchanged := by
  intro s n acc t ha _
  refine ⟨_, exec_pullSynth acc ha, mixSynth_length .., drawFrames_length .., fun k hk => ?_⟩
  rw [mixSynth_getD _ _ _ _ hk]
  exact ⟨rfl, rfl⟩

end Sys2Proof.Machine
end

section
/-! PROOFS. DeviceReset and its two triggers, construction and close (spec/70_reset_and_hazards.md R270-R275): O54, O56
and O57. -/

namespace Sys2Proof.Machine

/-! ## DeviceReset -/

/-- Both triggers run DeviceReset on the entered state. They differ in what `SYS_CONF_1` holds after it: the host's reset
leaves the reset value, the write stores its byte (R116, R274, R275). -/
theorem exec_of_resetTrigger {s : State} {i : Instr} {t : Nat} (ha : Admitted s t)
    (hi : i = .hostReset t ∨ ∃ v, i = .outSysConf1 v t ∧ v.getLsbD 7 = true ∧ s.sysConf1.getLsbD 7 = false) :
    ∃ b, exec i s = .next { (s.enter t).deviceReset t with sysConf1 := b } := by
  obtain rfl | ⟨v, rfl, hedge⟩ := hi
  · refine ⟨((s.enter t).deviceReset t).sysConf1, ?_⟩
    unfold exec
    exact access_of_admitted _ ha
  · refine ⟨v, ?_⟩
    have hreset : systemResetEdge v (s.enter t).sysConf1 = true := (systemResetEdge_iff _ _).2 hedge
    unfold exec
    refine (access_of_admitted _ ha).trans ?_
    rw [if_pos hreset]

/-- Settles O54: whichever trigger ran it, DeviceReset has put the MIDI registers at their reset values and made its
one line call first. -/
theorem resetClearsMidiAndDeasserts : Obligations.ResetClearsMidiAndDeasserts := by
  intro s i t ha hi
  obtain ⟨b, hexec⟩ := exec_of_resetTrigger ha hi
  rw [deviceReset_eq_resetRegisters] at hexec
  exact ⟨_, [.dspSetAddr 0x0000#16, .uartSetAddr 0x0000#16, .dspSetIrqDma 0x00#8], hexec, rfl, rfl, rfl, rfl, rfl,
    fun _ => Vector.getElem_replicate .., BitVec.getLsbD_zero, rfl, rfl, by simp [Call.drivesLine]⟩

/-! ## Construction -/

/-- Settles O56: what `CONSTRUCT` answers on a live block, element by element that of the block at reset. -/
theorem constructMakesAFreshBlock : Obligations.ConstructMakesAFreshBlock := by
  intro s p hc
  unfold exec
  exact execConstruct_eq p hc

/-! ## Close -/

/-- An admitted `CLOSE` closes the entered state and does nothing else (R271). -/
theorem exec_close {s : State} {t : Nat} (ha : Admitted s t) :
    exec (.close t) s = .next { s.enter t with closed := true } := by
  unfold exec
  exact access_of_admitted _ ha

section Closed

variable {s : State} {e : HostEvent} {i : Instr}

/-- An event placed after CLOSE decodes with no window bound (R271). -/
theorem step_offer_of_closed (hc : s.closed = true) (h : decodeClosed s.base e = .ok i) :
    step (s.offer e) = exec i s :=
  step_of_decode (offer_inputs s e) ((decode_of_closed (s := s.offer e) hc e).trans h)

/-- After CLOSE every read gives the bus value: the base-select port's under its own name, any other's as an unbound
access (R148, R156, R271). -/
theorem step_offer_ioRead_of_closed (hc : s.closed = true) (port : Port) (u : Nat) :
    step (s.offer (.ioRead port u)) = .next (s.returning (.byte 0xFF#8)) := by
  rw [step_offer_of_closed (i := missedRead port u) hc rfl]
  by_cases hp : port = Config.params.baseSelectPort
  · rw [hp, missedRead_baseSelectPort, exec_inBaseSelect]
  · rw [missedRead_of_ne u hp]
    exact exec_unbound s port none u

/-- After CLOSE a write of any port but the base-select port is an unbound access (R148, R271). -/
theorem step_offer_ioWrite_of_closed (hc : s.closed = true) {port : Port} (v : Byte) (u : Nat)
    (hp : port ≠ Config.params.baseSelectPort) :
    step (s.offer (.ioWrite port v u)) = .next (s.returning .nothing) := by
  have hdecode : decodeClosed s.base (.ioWrite port v u) = .ok (.unbound port (some v) u) :=
    congrArg Except.ok (if_neg hp)
  rw [step_offer_of_closed hc hdecode]
  exact exec_unbound s port (some v) u

end Closed

/-- Settles O57: the state CLOSE leaves is closed, which is all that each of the three clauses after it needs. -/
theorem noStepFollowsClose : Obligations.NoStepFollowsClose := fun _ _ ha =>
  ⟨_, exec_close ha, rfl, fun _ hr => exec_of_closed hr rfl, step_offer_ioRead_of_closed rfl,
    fun _ v u => step_offer_ioWrite_of_closed rfl v u⟩

end Sys2Proof.Machine
end
